-- ==== Sys2Proof/Word.lean ====
section
/-! DEFINITION. The machine's two word types (R6): bytes (A, X, Y, S, IR, OPR, the data bus) and 16-bit words (PC, EA, addresses). -/

namespace Sys2Proof

/-- An 8-bit register, a data byte or an opcode (R6). -/
abbrev Byte := BitVec 8

/-- A 16-bit register or an address (R6, R66). -/
abbrev Word := BitVec 16

end Sys2Proof
end

