-- ==== Sys2Proof/Syntax.lean ====
section
/-! DEFINITION. The instructions: one constructor per row of spec/opcode_table.json (R97), and an instruction as it stands in memory (R90). -/

namespace Sys2Proof

/-- The 256 instructions of the opcode map (R97), in the order of their opcodes. The opcode alone fixes the mnemonic
and the mode (R90, R91). A constructor carries no operand: the operand bytes are fetched by the instruction's own
transactions, each at the moment its sequence fetches it (R62, R77, R99). A mnemonic that has several rows of one mode
carries its opcode in the constructor's name. -/
inductive Instr
  | brk
  | oraIzx
  | jam02
  | sloIzx
  | nopZp04
  | oraZp
  | aslZp
  | sloZp
  | php
  | oraImm
  | aslAcc
  | ancImm0B
  | nopAbs0C
  | oraAbs
  | aslAbs
  | sloAbs
  | bpl
  | oraIzy
  | jam12
  | sloIzy
  | nopZpx14
  | oraZpx
  | aslZpx
  | sloZpx
  | clc
  | oraAby
  | nopImp1A
  | sloAby
  | nopAbx1C
  | oraAbx
  | aslAbx
  | sloAbx
  | jsr
  | andIzx
  | jam22
  | rlaIzx
  | bitZp
  | andZp
  | rolZp
  | rlaZp
  | plp
  | andImm
  | rolAcc
  | ancImm2B
  | bitAbs
  | andAbs
  | rolAbs
  | rlaAbs
  | bmi
  | andIzy
  | jam32
  | rlaIzy
  | nopZpx34
  | andZpx
  | rolZpx
  | rlaZpx
  | sec
  | andAby
  | nopImp3A
  | rlaAby
  | nopAbx3C
  | andAbx
  | rolAbx
  | rlaAbx
  | rti
  | eorIzx
  | jam42
  | sreIzx
  | nopZp44
  | eorZp
  | lsrZp
  | sreZp
  | pha
  | eorImm
  | lsrAcc
  | alr
  | jmpAbs
  | eorAbs
  | lsrAbs
  | sreAbs
  | bvc
  | eorIzy
  | jam52
  | sreIzy
  | nopZpx54
  | eorZpx
  | lsrZpx
  | sreZpx
  | cli
  | eorAby
  | nopImp5A
  | sreAby
  | nopAbx5C
  | eorAbx
  | lsrAbx
  | sreAbx
  | rts
  | adcIzx
  | jam62
  | rraIzx
  | nopZp64
  | adcZp
  | rorZp
  | rraZp
  | pla
  | adcImm
  | rorAcc
  | arr
  | jmpInd
  | adcAbs
  | rorAbs
  | rraAbs
  | bvs
  | adcIzy
  | jam72
  | rraIzy
  | nopZpx74
  | adcZpx
  | rorZpx
  | rraZpx
  | sei
  | adcAby
  | nopImp7A
  | rraAby
  | nopAbx7C
  | adcAbx
  | rorAbx
  | rraAbx
  | nopImm80
  | staIzx
  | nopImm82
  | saxIzx
  | styZp
  | staZp
  | stxZp
  | saxZp
  | dey
  | nopImm89
  | txa
  | ane
  | styAbs
  | staAbs
  | stxAbs
  | saxAbs
  | bcc
  | staIzy
  | jam92
  | shaIzy
  | styZpx
  | staZpx
  | stxZpy
  | saxZpy
  | tya
  | staAby
  | txs
  | tas
  | shy
  | staAbx
  | shx
  | shaAby
  | ldyImm
  | ldaIzx
  | ldxImm
  | laxIzx
  | ldyZp
  | ldaZp
  | ldxZp
  | laxZp
  | tay
  | ldaImm
  | tax
  | lxa
  | ldyAbs
  | ldaAbs
  | ldxAbs
  | laxAbs
  | bcs
  | ldaIzy
  | jamB2
  | laxIzy
  | ldyZpx
  | ldaZpx
  | ldxZpy
  | laxZpy
  | clv
  | ldaAby
  | tsx
  | las
  | ldyAbx
  | ldaAbx
  | ldxAby
  | laxAby
  | cpyImm
  | cmpIzx
  | nopImmC2
  | dcpIzx
  | cpyZp
  | cmpZp
  | decZp
  | dcpZp
  | iny
  | cmpImm
  | dex
  | sbx
  | cpyAbs
  | cmpAbs
  | decAbs
  | dcpAbs
  | bne
  | cmpIzy
  | jamD2
  | dcpIzy
  | nopZpxD4
  | cmpZpx
  | decZpx
  | dcpZpx
  | cld
  | cmpAby
  | nopImpDA
  | dcpAby
  | nopAbxDC
  | cmpAbx
  | decAbx
  | dcpAbx
  | cpxImm
  | sbcIzx
  | nopImmE2
  | iscIzx
  | cpxZp
  | sbcZp
  | incZp
  | iscZp
  | inx
  | sbcImm
  | nop
  | usbc
  | cpxAbs
  | sbcAbs
  | incAbs
  | iscAbs
  | beq
  | sbcIzy
  | jamF2
  | iscIzy
  | nopZpxF4
  | sbcZpx
  | incZpx
  | iscZpx
  | sed
  | sbcAby
  | nopImpFA
  | iscAby
  | nopAbxFC
  | sbcAbx
  | incAbx
  | iscAbx
  deriving DecidableEq, Repr

/-- An instruction as it stands in memory (R90): the opcode's instruction and its operand bytes, lowest address first. -/
structure Stored where
  instr : Instr
  operands : List Byte
  deriving DecidableEq, Repr

end Sys2Proof
end

