-- ==== Sys2Proof/WellFormed.lean ====
section
/-! DEFINITION. The operand format and the access class of every instruction (R90, R97, R98), and the check that a stored instruction has as many operand bytes as its format says. -/

namespace Sys2Proof

/-- The operand formats of R90. -/
inductive Mode
  | implied | accumulator | immediate | zeroPage | zeroPageX | zeroPageY | absolute | absoluteX | absoluteY
  | indexedIndirect | indirectIndexed | absoluteIndirect | relative
  deriving DecidableEq, Repr

/-- The access classes of R98; the instructions outside the three classes of R15 have a kind of their own, as the
opcode table names them. -/
inductive AccessClass
  | readOnly | writeOnly | readModifyWrite | impliedOp | branch | control | stackOp | jam
  deriving DecidableEq, Repr

/-- How many operand bytes follow the opcode (R90). -/
def Mode.operandBytes : Mode → Nat
  | .implied => 0
  | .accumulator => 0
  | .immediate => 1
  | .zeroPage => 1
  | .zeroPageX => 1
  | .zeroPageY => 1
  | .absolute => 2
  | .absoluteX => 2
  | .absoluteY => 2
  | .indexedIndirect => 1
  | .indirectIndexed => 1
  | .absoluteIndirect => 2
  | .relative => 1

/-- The format of each instruction (R97). -/
def Instr.mode : Instr → Mode
  | .brk | .jam02 | .php | .jam12 | .clc | .nopImp1A | .jam22 | .plp | .jam32 | .sec | .nopImp3A | .rti | .jam42
  | .pha | .jam52 | .cli | .nopImp5A | .rts | .jam62 | .pla | .jam72 | .sei | .nopImp7A | .dey | .txa | .jam92
  | .tya | .txs | .tay | .tax | .jamB2 | .clv | .tsx | .iny | .dex | .jamD2 | .cld | .nopImpDA | .inx | .nop
  | .jamF2 | .sed | .nopImpFA => .implied
  | .oraIzx | .sloIzx | .andIzx | .rlaIzx | .eorIzx | .sreIzx | .adcIzx | .rraIzx | .staIzx | .saxIzx | .ldaIzx
  | .laxIzx | .cmpIzx | .dcpIzx | .sbcIzx | .iscIzx => .indexedIndirect
  | .nopZp04 | .oraZp | .aslZp | .sloZp | .bitZp | .andZp | .rolZp | .rlaZp | .nopZp44 | .eorZp | .lsrZp | .sreZp
  | .nopZp64 | .adcZp | .rorZp | .rraZp | .styZp | .staZp | .stxZp | .saxZp | .ldyZp | .ldaZp | .ldxZp | .laxZp
  | .cpyZp | .cmpZp | .decZp | .dcpZp | .cpxZp | .sbcZp | .incZp | .iscZp => .zeroPage
  | .oraImm | .ancImm0B | .andImm | .ancImm2B | .eorImm | .alr | .adcImm | .arr | .nopImm80 | .nopImm82 | .nopImm89
  | .ane | .ldyImm | .ldxImm | .ldaImm | .lxa | .cpyImm | .nopImmC2 | .cmpImm | .sbx | .cpxImm | .nopImmE2
  | .sbcImm | .usbc => .immediate
  | .aslAcc | .rolAcc | .lsrAcc | .rorAcc => .accumulator
  | .nopAbs0C | .oraAbs | .aslAbs | .sloAbs | .jsr | .bitAbs | .andAbs | .rolAbs | .rlaAbs | .jmpAbs | .eorAbs
  | .lsrAbs | .sreAbs | .adcAbs | .rorAbs | .rraAbs | .styAbs | .staAbs | .stxAbs | .saxAbs | .ldyAbs | .ldaAbs
  | .ldxAbs | .laxAbs | .cpyAbs | .cmpAbs | .decAbs | .dcpAbs | .cpxAbs | .sbcAbs | .incAbs | .iscAbs => .absolute
  | .bpl | .bmi | .bvc | .bvs | .bcc | .bcs | .bne | .beq => .relative
  | .oraIzy | .sloIzy | .andIzy | .rlaIzy | .eorIzy | .sreIzy | .adcIzy | .rraIzy | .staIzy | .shaIzy | .ldaIzy
  | .laxIzy | .cmpIzy | .dcpIzy | .sbcIzy | .iscIzy => .indirectIndexed
  | .nopZpx14 | .oraZpx | .aslZpx | .sloZpx | .nopZpx34 | .andZpx | .rolZpx | .rlaZpx | .nopZpx54 | .eorZpx
  | .lsrZpx | .sreZpx | .nopZpx74 | .adcZpx | .rorZpx | .rraZpx | .styZpx | .staZpx | .ldyZpx | .ldaZpx | .nopZpxD4
  | .cmpZpx | .decZpx | .dcpZpx | .nopZpxF4 | .sbcZpx | .incZpx | .iscZpx => .zeroPageX
  | .oraAby | .sloAby | .andAby | .rlaAby | .eorAby | .sreAby | .adcAby | .rraAby | .staAby | .tas | .shx | .shaAby
  | .ldaAby | .las | .ldxAby | .laxAby | .cmpAby | .dcpAby | .sbcAby | .iscAby => .absoluteY
  | .nopAbx1C | .oraAbx | .aslAbx | .sloAbx | .nopAbx3C | .andAbx | .rolAbx | .rlaAbx | .nopAbx5C | .eorAbx
  | .lsrAbx | .sreAbx | .nopAbx7C | .adcAbx | .rorAbx | .rraAbx | .shy | .staAbx | .ldyAbx | .ldaAbx | .nopAbxDC
  | .cmpAbx | .decAbx | .dcpAbx | .nopAbxFC | .sbcAbx | .incAbx | .iscAbx => .absoluteX
  | .jmpInd => .absoluteIndirect
  | .stxZpy | .saxZpy | .ldxZpy | .laxZpy => .zeroPageY

/-- The access class of each instruction (R98, and the opcode table's access_class). -/
def Instr.accessClass : Instr → AccessClass
  | .brk | .jsr | .rti | .jmpAbs | .rts | .jmpInd => .control
  | .oraIzx | .nopZp04 | .oraZp | .oraImm | .ancImm0B | .nopAbs0C | .oraAbs | .oraIzy | .nopZpx14 | .oraZpx
  | .oraAby | .nopAbx1C | .oraAbx | .andIzx | .bitZp | .andZp | .andImm | .ancImm2B | .bitAbs | .andAbs | .andIzy
  | .nopZpx34 | .andZpx | .andAby | .nopAbx3C | .andAbx | .eorIzx | .nopZp44 | .eorZp | .eorImm | .alr | .eorAbs
  | .eorIzy | .nopZpx54 | .eorZpx | .eorAby | .nopAbx5C | .eorAbx | .adcIzx | .nopZp64 | .adcZp | .adcImm | .arr
  | .adcAbs | .adcIzy | .nopZpx74 | .adcZpx | .adcAby | .nopAbx7C | .adcAbx | .nopImm80 | .nopImm82 | .nopImm89
  | .ane | .ldyImm | .ldaIzx | .ldxImm | .laxIzx | .ldyZp | .ldaZp | .ldxZp | .laxZp | .ldaImm | .lxa | .ldyAbs
  | .ldaAbs | .ldxAbs | .laxAbs | .ldaIzy | .laxIzy | .ldyZpx | .ldaZpx | .ldxZpy | .laxZpy | .ldaAby | .las
  | .ldyAbx | .ldaAbx | .ldxAby | .laxAby | .cpyImm | .cmpIzx | .nopImmC2 | .cpyZp | .cmpZp | .cmpImm | .sbx
  | .cpyAbs | .cmpAbs | .cmpIzy | .nopZpxD4 | .cmpZpx | .cmpAby | .nopAbxDC | .cmpAbx | .cpxImm | .sbcIzx
  | .nopImmE2 | .cpxZp | .sbcZp | .sbcImm | .usbc | .cpxAbs | .sbcAbs | .sbcIzy | .nopZpxF4 | .sbcZpx | .sbcAby
  | .nopAbxFC | .sbcAbx => .readOnly
  | .jam02 | .jam12 | .jam22 | .jam32 | .jam42 | .jam52 | .jam62 | .jam72 | .jam92 | .jamB2 | .jamD2 | .jamF2 => .jam
  | .sloIzx | .aslZp | .sloZp | .aslAcc | .aslAbs | .sloAbs | .sloIzy | .aslZpx | .sloZpx | .sloAby | .aslAbx
  | .sloAbx | .rlaIzx | .rolZp | .rlaZp | .rolAcc | .rolAbs | .rlaAbs | .rlaIzy | .rolZpx | .rlaZpx | .rlaAby
  | .rolAbx | .rlaAbx | .sreIzx | .lsrZp | .sreZp | .lsrAcc | .lsrAbs | .sreAbs | .sreIzy | .lsrZpx | .sreZpx
  | .sreAby | .lsrAbx | .sreAbx | .rraIzx | .rorZp | .rraZp | .rorAcc | .rorAbs | .rraAbs | .rraIzy | .rorZpx
  | .rraZpx | .rraAby | .rorAbx | .rraAbx | .dcpIzx | .decZp | .dcpZp | .decAbs | .dcpAbs | .dcpIzy | .decZpx
  | .dcpZpx | .dcpAby | .decAbx | .dcpAbx | .iscIzx | .incZp | .iscZp | .incAbs | .iscAbs | .iscIzy | .incZpx
  | .iscZpx | .iscAby | .incAbx | .iscAbx => .readModifyWrite
  | .php | .plp | .pha | .pla => .stackOp
  | .bpl | .bmi | .bvc | .bvs | .bcc | .bcs | .bne | .beq => .branch
  | .clc | .nopImp1A | .sec | .nopImp3A | .cli | .nopImp5A | .sei | .nopImp7A | .dey | .txa | .tya | .txs | .tay
  | .tax | .clv | .tsx | .iny | .dex | .cld | .nopImpDA | .inx | .nop | .sed | .nopImpFA => .impliedOp
  | .staIzx | .saxIzx | .styZp | .staZp | .stxZp | .saxZp | .styAbs | .staAbs | .stxAbs | .saxAbs | .staIzy
  | .shaIzy | .styZpx | .staZpx | .stxZpy | .saxZpy | .staAby | .tas | .shy | .staAbx | .shx | .shaAby => .writeOnly

/-- The number of operand bytes of an instruction (R90). BRK has none: the byte its sequence skips is no operand. -/
def Instr.operandBytes (i : Instr) : Nat := i.mode.operandBytes

/-- A stored instruction is well formed when it has exactly the operand bytes of its format (R90). Every byte value is
admitted in every operand position (R100), so this is the only check. -/
def Stored.wellFormed (w : Stored) : Bool := w.operands.length == w.instr.operandBytes

end Sys2Proof
end

