-- ==== Sys2Proof/Decode.lean ====
section
/-! DEFINITION. The decoder, total on every opcode byte (R97, R100), the decoder of stored instructions, which rejects by name a byte list that is too short, and the encoder written from the same map. -/

namespace Sys2Proof

/-- Row 0x of the opcode map (R97). -/
def opcodeRow0 : List Instr :=
  [.brk, .oraIzx, .jam02, .sloIzx, .nopZp04, .oraZp, .aslZp, .sloZp,
   .php, .oraImm, .aslAcc, .ancImm0B, .nopAbs0C, .oraAbs, .aslAbs, .sloAbs]

/-- Row 1x of the opcode map (R97). -/
def opcodeRow1 : List Instr :=
  [.bpl, .oraIzy, .jam12, .sloIzy, .nopZpx14, .oraZpx, .aslZpx, .sloZpx,
   .clc, .oraAby, .nopImp1A, .sloAby, .nopAbx1C, .oraAbx, .aslAbx, .sloAbx]

/-- Row 2x of the opcode map (R97). -/
def opcodeRow2 : List Instr :=
  [.jsr, .andIzx, .jam22, .rlaIzx, .bitZp, .andZp, .rolZp, .rlaZp,
   .plp, .andImm, .rolAcc, .ancImm2B, .bitAbs, .andAbs, .rolAbs, .rlaAbs]

/-- Row 3x of the opcode map (R97). -/
def opcodeRow3 : List Instr :=
  [.bmi, .andIzy, .jam32, .rlaIzy, .nopZpx34, .andZpx, .rolZpx, .rlaZpx,
   .sec, .andAby, .nopImp3A, .rlaAby, .nopAbx3C, .andAbx, .rolAbx, .rlaAbx]

/-- Row 4x of the opcode map (R97). -/
def opcodeRow4 : List Instr :=
  [.rti, .eorIzx, .jam42, .sreIzx, .nopZp44, .eorZp, .lsrZp, .sreZp,
   .pha, .eorImm, .lsrAcc, .alr, .jmpAbs, .eorAbs, .lsrAbs, .sreAbs]

/-- Row 5x of the opcode map (R97). -/
def opcodeRow5 : List Instr :=
  [.bvc, .eorIzy, .jam52, .sreIzy, .nopZpx54, .eorZpx, .lsrZpx, .sreZpx,
   .cli, .eorAby, .nopImp5A, .sreAby, .nopAbx5C, .eorAbx, .lsrAbx, .sreAbx]

/-- Row 6x of the opcode map (R97). -/
def opcodeRow6 : List Instr :=
  [.rts, .adcIzx, .jam62, .rraIzx, .nopZp64, .adcZp, .rorZp, .rraZp,
   .pla, .adcImm, .rorAcc, .arr, .jmpInd, .adcAbs, .rorAbs, .rraAbs]

/-- Row 7x of the opcode map (R97). -/
def opcodeRow7 : List Instr :=
  [.bvs, .adcIzy, .jam72, .rraIzy, .nopZpx74, .adcZpx, .rorZpx, .rraZpx,
   .sei, .adcAby, .nopImp7A, .rraAby, .nopAbx7C, .adcAbx, .rorAbx, .rraAbx]

/-- Row 8x of the opcode map (R97). -/
def opcodeRow8 : List Instr :=
  [.nopImm80, .staIzx, .nopImm82, .saxIzx, .styZp, .staZp, .stxZp, .saxZp,
   .dey, .nopImm89, .txa, .ane, .styAbs, .staAbs, .stxAbs, .saxAbs]

/-- Row 9x of the opcode map (R97). -/
def opcodeRow9 : List Instr :=
  [.bcc, .staIzy, .jam92, .shaIzy, .styZpx, .staZpx, .stxZpy, .saxZpy,
   .tya, .staAby, .txs, .tas, .shy, .staAbx, .shx, .shaAby]

/-- Row Ax of the opcode map (R97). -/
def opcodeRowA : List Instr :=
  [.ldyImm, .ldaIzx, .ldxImm, .laxIzx, .ldyZp, .ldaZp, .ldxZp, .laxZp,
   .tay, .ldaImm, .tax, .lxa, .ldyAbs, .ldaAbs, .ldxAbs, .laxAbs]

/-- Row Bx of the opcode map (R97). -/
def opcodeRowB : List Instr :=
  [.bcs, .ldaIzy, .jamB2, .laxIzy, .ldyZpx, .ldaZpx, .ldxZpy, .laxZpy,
   .clv, .ldaAby, .tsx, .las, .ldyAbx, .ldaAbx, .ldxAby, .laxAby]

/-- Row Cx of the opcode map (R97). -/
def opcodeRowC : List Instr :=
  [.cpyImm, .cmpIzx, .nopImmC2, .dcpIzx, .cpyZp, .cmpZp, .decZp, .dcpZp,
   .iny, .cmpImm, .dex, .sbx, .cpyAbs, .cmpAbs, .decAbs, .dcpAbs]

/-- Row Dx of the opcode map (R97). -/
def opcodeRowD : List Instr :=
  [.bne, .cmpIzy, .jamD2, .dcpIzy, .nopZpxD4, .cmpZpx, .decZpx, .dcpZpx,
   .cld, .cmpAby, .nopImpDA, .dcpAby, .nopAbxDC, .cmpAbx, .decAbx, .dcpAbx]

/-- Row Ex of the opcode map (R97). -/
def opcodeRowE : List Instr :=
  [.cpxImm, .sbcIzx, .nopImmE2, .iscIzx, .cpxZp, .sbcZp, .incZp, .iscZp,
   .inx, .sbcImm, .nop, .usbc, .cpxAbs, .sbcAbs, .incAbs, .iscAbs]

/-- Row Fx of the opcode map (R97). -/
def opcodeRowF : List Instr :=
  [.beq, .sbcIzy, .jamF2, .iscIzy, .nopZpxF4, .sbcZpx, .incZpx, .iscZpx,
   .sed, .sbcAby, .nopImpFA, .iscAby, .nopAbxFC, .sbcAbx, .incAbx, .iscAbx]

/-- The opcode map (R97): the instruction of opcode `k` stands at place `k`. -/
def opcodeMap : List Instr :=
  opcodeRow0 ++ opcodeRow1 ++ opcodeRow2 ++ opcodeRow3 ++ opcodeRow4 ++ opcodeRow5 ++ opcodeRow6 ++ opcodeRow7
    ++ opcodeRow8 ++ opcodeRow9 ++ opcodeRowA ++ opcodeRowB ++ opcodeRowC ++ opcodeRowD ++ opcodeRowE ++ opcodeRowF

theorem opcodeMap_length : opcodeMap.length = 256 := by
  simp only [opcodeMap, List.length_append]
  decide

/-- The decoder on an opcode byte (R97, R99). It is total: no opcode is reserved and none traps (R100). -/
def decodeOpcode (b : Byte) : Instr :=
  opcodeMap[b.toNat]'(by rw [opcodeMap_length]; exact b.isLt)

/-- Why a list of bytes holds no stored instruction. -/
inductive DecodeError
  /-- The list is empty. -/
  | noOpcode
  /-- The opcode is there, but not all the operand bytes of its format. -/
  | missingOperand (i : Instr)
  deriving DecidableEq, Repr

/-- Decode the instruction that a list of bytes begins with (lowest address first); the bytes after it come back. -/
def decode : List Byte → Except DecodeError (Stored × List Byte)
  | [] => .error .noOpcode
  | op :: rest =>
    let i := decodeOpcode op
    if i.operandBytes ≤ rest.length then
      .ok (⟨i, rest.take i.operandBytes⟩, rest.drop i.operandBytes)
    else .error (.missingOperand i)

/-- The bytes of an instruction word numbered as the opcode table numbers it: bit 0 is the least significant bit of the
first byte. An instruction has at most three bytes (R90). -/
def wordBytes (w : Nat) : List Byte :=
  [BitVec.ofNat 8 w, BitVec.ofNat 8 (w / 256), BitVec.ofNat 8 (w / 65536)]

/-- What the decoder reads from the instruction whose low `nbits` bits are `w`, every further bit being 0. -/
def decodeTableWord (nbits w : Nat) : Option Instr :=
  match decode (wordBytes (w % 2 ^ nbits)) with
  | .ok (st, _) => some st.instr
  | .error _ => none

/-- The opcode of each instruction (R97), the encoder's half of the map. -/
def encodeOpcode : Instr → Byte
  | .brk => 0x00
  | .oraIzx => 0x01
  | .jam02 => 0x02
  | .sloIzx => 0x03
  | .nopZp04 => 0x04
  | .oraZp => 0x05
  | .aslZp => 0x06
  | .sloZp => 0x07
  | .php => 0x08
  | .oraImm => 0x09
  | .aslAcc => 0x0A
  | .ancImm0B => 0x0B
  | .nopAbs0C => 0x0C
  | .oraAbs => 0x0D
  | .aslAbs => 0x0E
  | .sloAbs => 0x0F
  | .bpl => 0x10
  | .oraIzy => 0x11
  | .jam12 => 0x12
  | .sloIzy => 0x13
  | .nopZpx14 => 0x14
  | .oraZpx => 0x15
  | .aslZpx => 0x16
  | .sloZpx => 0x17
  | .clc => 0x18
  | .oraAby => 0x19
  | .nopImp1A => 0x1A
  | .sloAby => 0x1B
  | .nopAbx1C => 0x1C
  | .oraAbx => 0x1D
  | .aslAbx => 0x1E
  | .sloAbx => 0x1F
  | .jsr => 0x20
  | .andIzx => 0x21
  | .jam22 => 0x22
  | .rlaIzx => 0x23
  | .bitZp => 0x24
  | .andZp => 0x25
  | .rolZp => 0x26
  | .rlaZp => 0x27
  | .plp => 0x28
  | .andImm => 0x29
  | .rolAcc => 0x2A
  | .ancImm2B => 0x2B
  | .bitAbs => 0x2C
  | .andAbs => 0x2D
  | .rolAbs => 0x2E
  | .rlaAbs => 0x2F
  | .bmi => 0x30
  | .andIzy => 0x31
  | .jam32 => 0x32
  | .rlaIzy => 0x33
  | .nopZpx34 => 0x34
  | .andZpx => 0x35
  | .rolZpx => 0x36
  | .rlaZpx => 0x37
  | .sec => 0x38
  | .andAby => 0x39
  | .nopImp3A => 0x3A
  | .rlaAby => 0x3B
  | .nopAbx3C => 0x3C
  | .andAbx => 0x3D
  | .rolAbx => 0x3E
  | .rlaAbx => 0x3F
  | .rti => 0x40
  | .eorIzx => 0x41
  | .jam42 => 0x42
  | .sreIzx => 0x43
  | .nopZp44 => 0x44
  | .eorZp => 0x45
  | .lsrZp => 0x46
  | .sreZp => 0x47
  | .pha => 0x48
  | .eorImm => 0x49
  | .lsrAcc => 0x4A
  | .alr => 0x4B
  | .jmpAbs => 0x4C
  | .eorAbs => 0x4D
  | .lsrAbs => 0x4E
  | .sreAbs => 0x4F
  | .bvc => 0x50
  | .eorIzy => 0x51
  | .jam52 => 0x52
  | .sreIzy => 0x53
  | .nopZpx54 => 0x54
  | .eorZpx => 0x55
  | .lsrZpx => 0x56
  | .sreZpx => 0x57
  | .cli => 0x58
  | .eorAby => 0x59
  | .nopImp5A => 0x5A
  | .sreAby => 0x5B
  | .nopAbx5C => 0x5C
  | .eorAbx => 0x5D
  | .lsrAbx => 0x5E
  | .sreAbx => 0x5F
  | .rts => 0x60
  | .adcIzx => 0x61
  | .jam62 => 0x62
  | .rraIzx => 0x63
  | .nopZp64 => 0x64
  | .adcZp => 0x65
  | .rorZp => 0x66
  | .rraZp => 0x67
  | .pla => 0x68
  | .adcImm => 0x69
  | .rorAcc => 0x6A
  | .arr => 0x6B
  | .jmpInd => 0x6C
  | .adcAbs => 0x6D
  | .rorAbs => 0x6E
  | .rraAbs => 0x6F
  | .bvs => 0x70
  | .adcIzy => 0x71
  | .jam72 => 0x72
  | .rraIzy => 0x73
  | .nopZpx74 => 0x74
  | .adcZpx => 0x75
  | .rorZpx => 0x76
  | .rraZpx => 0x77
  | .sei => 0x78
  | .adcAby => 0x79
  | .nopImp7A => 0x7A
  | .rraAby => 0x7B
  | .nopAbx7C => 0x7C
  | .adcAbx => 0x7D
  | .rorAbx => 0x7E
  | .rraAbx => 0x7F
  | .nopImm80 => 0x80
  | .staIzx => 0x81
  | .nopImm82 => 0x82
  | .saxIzx => 0x83
  | .styZp => 0x84
  | .staZp => 0x85
  | .stxZp => 0x86
  | .saxZp => 0x87
  | .dey => 0x88
  | .nopImm89 => 0x89
  | .txa => 0x8A
  | .ane => 0x8B
  | .styAbs => 0x8C
  | .staAbs => 0x8D
  | .stxAbs => 0x8E
  | .saxAbs => 0x8F
  | .bcc => 0x90
  | .staIzy => 0x91
  | .jam92 => 0x92
  | .shaIzy => 0x93
  | .styZpx => 0x94
  | .staZpx => 0x95
  | .stxZpy => 0x96
  | .saxZpy => 0x97
  | .tya => 0x98
  | .staAby => 0x99
  | .txs => 0x9A
  | .tas => 0x9B
  | .shy => 0x9C
  | .staAbx => 0x9D
  | .shx => 0x9E
  | .shaAby => 0x9F
  | .ldyImm => 0xA0
  | .ldaIzx => 0xA1
  | .ldxImm => 0xA2
  | .laxIzx => 0xA3
  | .ldyZp => 0xA4
  | .ldaZp => 0xA5
  | .ldxZp => 0xA6
  | .laxZp => 0xA7
  | .tay => 0xA8
  | .ldaImm => 0xA9
  | .tax => 0xAA
  | .lxa => 0xAB
  | .ldyAbs => 0xAC
  | .ldaAbs => 0xAD
  | .ldxAbs => 0xAE
  | .laxAbs => 0xAF
  | .bcs => 0xB0
  | .ldaIzy => 0xB1
  | .jamB2 => 0xB2
  | .laxIzy => 0xB3
  | .ldyZpx => 0xB4
  | .ldaZpx => 0xB5
  | .ldxZpy => 0xB6
  | .laxZpy => 0xB7
  | .clv => 0xB8
  | .ldaAby => 0xB9
  | .tsx => 0xBA
  | .las => 0xBB
  | .ldyAbx => 0xBC
  | .ldaAbx => 0xBD
  | .ldxAby => 0xBE
  | .laxAby => 0xBF
  | .cpyImm => 0xC0
  | .cmpIzx => 0xC1
  | .nopImmC2 => 0xC2
  | .dcpIzx => 0xC3
  | .cpyZp => 0xC4
  | .cmpZp => 0xC5
  | .decZp => 0xC6
  | .dcpZp => 0xC7
  | .iny => 0xC8
  | .cmpImm => 0xC9
  | .dex => 0xCA
  | .sbx => 0xCB
  | .cpyAbs => 0xCC
  | .cmpAbs => 0xCD
  | .decAbs => 0xCE
  | .dcpAbs => 0xCF
  | .bne => 0xD0
  | .cmpIzy => 0xD1
  | .jamD2 => 0xD2
  | .dcpIzy => 0xD3
  | .nopZpxD4 => 0xD4
  | .cmpZpx => 0xD5
  | .decZpx => 0xD6
  | .dcpZpx => 0xD7
  | .cld => 0xD8
  | .cmpAby => 0xD9
  | .nopImpDA => 0xDA
  | .dcpAby => 0xDB
  | .nopAbxDC => 0xDC
  | .cmpAbx => 0xDD
  | .decAbx => 0xDE
  | .dcpAbx => 0xDF
  | .cpxImm => 0xE0
  | .sbcIzx => 0xE1
  | .nopImmE2 => 0xE2
  | .iscIzx => 0xE3
  | .cpxZp => 0xE4
  | .sbcZp => 0xE5
  | .incZp => 0xE6
  | .iscZp => 0xE7
  | .inx => 0xE8
  | .sbcImm => 0xE9
  | .nop => 0xEA
  | .usbc => 0xEB
  | .cpxAbs => 0xEC
  | .sbcAbs => 0xED
  | .incAbs => 0xEE
  | .iscAbs => 0xEF
  | .beq => 0xF0
  | .sbcIzy => 0xF1
  | .jamF2 => 0xF2
  | .iscIzy => 0xF3
  | .nopZpxF4 => 0xF4
  | .sbcZpx => 0xF5
  | .incZpx => 0xF6
  | .iscZpx => 0xF7
  | .sed => 0xF8
  | .sbcAby => 0xF9
  | .nopImpFA => 0xFA
  | .iscAby => 0xFB
  | .nopAbxFC => 0xFC
  | .sbcAbx => 0xFD
  | .incAbx => 0xFE
  | .iscAbx => 0xFF

/-- The bytes of a stored instruction (R90): its opcode, then its operand bytes. -/
def encode (w : Stored) : List Byte := encodeOpcode w.instr :: w.operands

end Sys2Proof
end

