-- ==== Sys2Proof/Machine/Bus.lean ====
section
/-! DEFINITION. What crosses the block's boundary: bus transactions (R60), events of the history (R65), the calls of the driver and of collaborators (R8, R63, R334), and the answers of the open parameters RESOLVER and OTHER_CORE_STEP (R7). -/

namespace Sys2Proof.Machine

/-- The direction of a transaction (R60). -/
inductive Dir
  | read
  | write
  deriving DecidableEq, Repr, Inhabited

/-- A bus transaction (R60): address, direction, data and bank byte. `data` is the byte written; it is 0 for a read.
The 6502 core drives bank 0 on every transaction (R60, D27). -/
structure Txn where
  dir : Dir
  addr : Word
  data : Byte
  bank : Byte
  deriving DecidableEq, Repr, Inhabited

/-- One entry of the event history (R65): the context, its clock before the tick, direction, address, data byte.
Context 0 is the 6502 core. -/
structure Event where
  context : Nat
  clock : Nat
  dir : Dir
  addr : Word
  data : Byte
  deriving DecidableEq, Repr

/-- An interrupt source (R311): the edge-triggered line, or `level i`, the source `IRQ_SOURCES[i]`. -/
inductive Source
  | nmi
  | level (i : Nat)
  deriving DecidableEq, Repr

/-- The calls of the block's interface (R64, R311, R341, R342, R345, R361, R363). A context is named by its handle:
0 is the 6502 core, `k + 1` the other context number `k`. -/
inductive Call
  | assertLine (source : Source) (asserted : Bool)
  | stall (context : Nat) (n : Nat)
  | grantCycles (context : Nat) (n : Int)
  | resume (context : Nat)
  | hardReset (context : Nat)
  | softReset (context : Nat)
  | abort (context : Nat)
  deriving DecidableEq, Repr

/-- What a resolver may try during a transaction (R63): a call, or suspending the calling context (out of contract). -/
inductive CollabCall
  | call (c : Call)
  | suspendCaller
  deriving DecidableEq, Repr

/-- The resolver's answer (R63, R331): a value (a byte when it lies in 0..255), or a failure with its payload. -/
inductive Answer
  | value (v : Int)
  | thrown (code : Nat)
  deriving DecidableEq, Repr, Inhabited

/-- The whole reply of the resolver to one transaction: its answer, and the calls it made meanwhile, in order (R63). -/
structure Reply where
  answer : Answer
  calls : List CollabCall
  deriving DecidableEq, Repr, Inhabited

/-- What another context goes by when it executes (R33, R347, R351): whether a reset sequence is due, its position within
the current instruction (0 at a boundary), its own registers in an encoding that OTHER_CORE_STEP fixes, and the input
lines. Log 11. -/
structure OtherView where
  resetDue : Bool
  position : Nat
  registers : Nat
  nmiLine : Bool
  irqLines : Nat
  deriving DecidableEq, Repr, Inhabited

/-- What another context is after a transaction (R347): its registers, and whether it stands at an instruction boundary.
Log 11. -/
structure OtherNext where
  registers : Nat
  boundary : Bool
  deriving DecidableEq, Repr, Inhabited

/-- What another context does when it executes (R347): its next transaction, or the end of its forward progress. -/
inductive OtherAction
  | txn (t : Txn)
  | jam
  deriving DecidableEq, Repr, Inhabited

/-- An address window `first .. last` (inclusive) behind which the oracle RESOLVER answers instead of plain memory. -/
structure Window where
  first : Word
  last : Word
  deriving DecidableEq, Repr

end Sys2Proof.Machine
end

