-- ==== Sys2Proof/Config.lean ====
section
/-! DEFINITION. The open implementation parameters of R7. Each is a constant with no body: no proof can see its value, so a claim holds for every value. -/

namespace Sys2Proof

/-- `DECIMAL_ENABLED` (R7, D2, OPEN): whether ADC, SBC, ARR, RRA and ISC honour the D flag. Log 3. -/
opaque Config.decimalEnabled : Bool

/-- `ANE_MAGIC` (R7, R282, D3, OPEN). Log 3. -/
opaque Config.aneMagic : Byte

/-- `LXA_MAGIC` (R7, R283, D4, OPEN). Log 3. -/
opaque Config.lxaMagic : Byte

/-- The name of the first level-triggered source: `IRQ_SOURCES` has at least one (R7, D30, OPEN). Log 4. -/
opaque Config.firstIrqSource : String

/-- The names of the further level-triggered sources (R7, D30, OPEN). Log 4. -/
opaque Config.furtherIrqSources : List String

/-- `IRQ_SOURCES` (R7, R31): the level-triggered sources, at least one. -/
def Config.irqSources : List String := Config.firstIrqSource :: Config.furtherIrqSources

/-- `NIRQ` (R7, R31): the number of level-triggered sources. -/
def Config.nirq : Nat := Config.irqSources.length

/-- `RESOLVER` (R7, R63, D22, OPEN): the collaborator's reply to a transaction, a function of the transaction and of
the whole event history (newest first). The model asks it inside the device windows. Log 2. -/
opaque Config.resolver : Machine.Txn → List Machine.Event → Machine.Reply

/-- `OTHER_CORE_STEP` (R7, R347, D38, OPEN), its first part: what the other context of a given number does next, from
what it goes by and the event history. Log 11. -/
opaque Config.otherCoreStep : Nat → Machine.OtherView → List Machine.Event → Machine.OtherAction

/-- `OTHER_CORE_STEP`, its second part: what that context is after the transaction, from what it went by, the event
history with that transaction, and the byte. Log 11. -/
opaque Config.otherCoreAfter : Nat → Machine.OtherView → List Machine.Event → Byte → Machine.OtherNext

/-- `OTHER_CORE_STEP`, its third part: the registers of that context after HardReset (R361). Log 11. -/
opaque Config.otherHardReset : Nat → Nat

/-- `OTHER_CORE_STEP`, its fourth part: its registers after SoftReset, from those before (R363). Log 11. -/
opaque Config.otherSoftReset : Nat → Nat → Nat

end Sys2Proof
end

