-- ==== Sys2Proof/Machine/State.lean ====
section
/-! DEFINITION. The state of the machine as plain data (R20 to R36, R65), its reset value (R36, R361), and the reasons a step can stop. -/

namespace Sys2Proof.Machine

/-- The status flags, six independent booleans (R26). -/
structure Flags where
  n : Bool
  v : Bool
  d : Bool
  i : Bool
  z : Bool
  c : Bool
  deriving DecidableEq, Repr

/-- Why the resolver failed (R331): it threw an error, or it returned a value that is not a byte. -/
inductive Payload
  | thrown (code : Nat)
  | notAByte (value : Int)
  deriving DecidableEq, Repr

/-- The execution state of a context (R33). -/
inductive Run
  | running
  | jammed
  | faulted (payload : Payload)
  deriving DecidableEq, Repr

/-- Whether a reset sequence is due before the next fetch (R33). -/
inductive ResetReq
  | none
  | reset
  deriving DecidableEq, Repr

/-- The three kinds of transaction sequence of the core: an instruction (T1, T2, ...), an interrupt entry (E1 to E7)
and the reset sequence (R1 to R7). -/
inductive SeqKind
  | instr
  | entry
  | reset
  deriving DecidableEq, Repr

/-- The position within the current instruction, retained across a suspension (R33, R342). `inTxn q k d`: the context
stopped after steps 0 to d of transaction `k` of the sequence `q`, counted from 0 (T1, E1 or R1 is transaction 0); `d`
is the byte that transaction returns when the context goes on at step e (R61). -/
inductive Position
  | boundary
  | inTxn (seq : SeqKind) (k : Nat) (data : Byte)
  deriving DecidableEq, Repr

/-- The internal latches of the sequences, which belong to the retained position (spec/40_addressing.md, conventions):
`p`, `lo`, `c`, `r` as there; `h` the base high byte H of R286; `c` also holds `cross` of R230; `target` of R230;
`vec` of R321. -/
structure Latches where
  p : Byte
  lo : Byte
  h : Byte
  c : Bool
  r : Byte
  target : Word
  vec : Word
  deriving DecidableEq, Repr

/-- The latches at an instruction boundary, where none is in use. Log 13. -/
def Latches.clear : Latches := ⟨0, 0, 0, false, 0, 0, 0⟩

/-- The life of a context (R34). -/
inductive CtxState
  | idle
  | active
  | suspended
  | aborted
  deriving DecidableEq, Repr

/-- The scheduler state that every context has (R34). -/
structure Sched where
  budget : Int
  clock : Nat
  stallPending : Nat
  ctx : CtxState
  deriving DecidableEq, Repr

/-- A context that is not this 6502 core (R347, R351): its scheduler state (R34), its execution state `run`, `resetReq` and
`position` (R33; `position` counts the transactions performed of the current instruction or reset sequence, 0 at a
boundary), and its own registers and sampler in an encoding that OTHER_CORE_STEP fixes. Log 11. -/
structure OtherContext where
  sched : Sched
  run : Run
  resetReq : ResetReq
  position : Nat
  registers : Nat
  deriving DecidableEq, Repr

/-- The status of a `Resume` report (R332). -/
inductive Status
  | exhausted
  | jammed
  | faulted (payload : Payload)
  deriving DecidableEq, Repr

/-- What `Resume` returned last (R332): of which context, the status, and the budget then. -/
structure Report where
  context : Nat
  status : Status
  budget : Int
  deriving DecidableEq, Repr

/-- The whole machine: the 6502 context, the arbiter, the other contexts, the memory behind the bus, the history, and
the driver's calls still to come. Its fields are listed with their rules in INVENTORY.md, '## State'. -/
structure State where
  /-- Accumulator (R21). -/
  a : Byte
  /-- Index register X (R21). -/
  x : Byte
  /-- Index register Y (R21). -/
  y : Byte
  /-- Stack pointer, an offset into page 0x01 (R21, R67). -/
  s : Byte
  /-- Program counter, with the views PCL and PCH (R21, R22). -/
  pc : Word
  /-- Effective-address register, with the views EAL and EAH (R21, R22). -/
  ea : Word
  /-- The opcode of the instruction being executed (R21). -/
  ir : Byte
  /-- The operand data latch (R21). -/
  opr : Byte
  /-- The status flags (R26). -/
  p : Flags
  /-- The level of the edge-triggered line (R31). -/
  nmiLine : Bool
  /-- The level-triggered lines: bit `i` is `IRQ_SOURCES[i]` (R31). Log 4. -/
  irqLines : Nat
  /-- The edge line's level at the last poll (R32). -/
  nmiPrev : Bool
  /-- The edge line's Pending flag (R32). -/
  nmiPending : Bool
  /-- The pending-interrupt decision of the most recent poll (R32). -/
  intPending : Bool
  /-- The vector selection of the most recent poll (R32). -/
  intVector : Word
  /-- Polling is disabled for the coming transaction (R32, R316). -/
  suspend : Bool
  /-- Running, jammed or faulted (R33). -/
  run : Run
  /-- A reset sequence is due (R33). -/
  resetReq : ResetReq
  /-- Where the context stopped inside a sequence (R33). -/
  position : Position
  /-- The latches of the sequence in progress (R33). -/
  latch : Latches
  /-- The scheduler state of this context (R34). -/
  sched : Sched
  /-- The handle of the context that executes, if one does (R35): 0 is this core. -/
  active : Option Nat
  /-- The other contexts (R347, R351). -/
  others : List OtherContext
  /-- The memory behind the bus (R66), in canonical form (`Memory.wf`). Log 1. -/
  mem : List Host.Cell
  /-- The windows that the oracle RESOLVER answers. The model's own field. Log 2. -/
  devices : List Window
  /-- Every transaction performed, newest first (R65). -/
  history : List Event
  /-- The report of the last `Resume` (R332). -/
  report : Option Report
  /-- The driver's calls still to come (R348). The model's own field. Log 5. -/
  driver : List Call
  deriving DecidableEq, Repr

/-- The faults a step can stop with: none. The block raises no synchronous exception and no instruction traps (R310); a
collaborator's failure is a state of the machine, `run = faulted` (R331), and so is a jam (R293). The type exists because
the host's interface names it. -/
inductive Fault
  deriving DecidableEq, Repr

/-- The misuses that R334 (and R63, R341, R364) declares out of contract; the model refuses each. -/
inductive Misuse
  /-- `Resume`, a reset or `Abort` while a context is active (R334). -/
  | whileActive
  /-- `Resume` of an aborted context (R334, R345). -/
  | resumeAborted
  /-- `SoftReset` of an aborted context: R346 admits only `HardReset`. -/
  | softResetAborted
  /-- `Abort` of an aborted context (R345). -/
  | abortAborted
  /-- `GrantCycles` with n < 0 (R334, R341). -/
  | negativeGrant
  /-- `AssertLine` with an unknown source (R311, R334). -/
  | unknownSource
  /-- A resolver that tries to suspend the calling context (R63, R334). -/
  | resolverSuspends
  /-- A call that names a context that does not exist. -/
  | unknownContext
  deriving DecidableEq, Repr

/-- Why a step is refused. -/
inductive Refusal
  /-- An instruction without a meaning. Raised by no arm of this model. Safe. -/
  | notModelled (mnemonic : String)
  /-- An out-of-contract call of the driver or of the resolver (R334): outside the model's domain, no state is changed.
  Raised by the driver's calls and by the resolver's replies, never by an instruction itself. Safe. -/
  | outOfContract (m : Misuse)
  /-- The retained position names a transaction that its sequence does not have: the "decoder or addressing bug" of R333
  (U9), which no run reaches. Raised by resuming a sequence. Safe. -/
  | noSuchTransaction
  deriving DecidableEq, Repr

/-- What an executing step of the machine answers. -/
abbrev Result := Host.Outcome State Fault Refusal

/-- The state right after construction of the context, which is `HardReset` (R36, R361, R365). Fields that the spec gives
no reset value for: log 1, 2, 5, 11, 13 and 15. -/
def State.reset : State where
  a := 0x00
  x := 0x00
  y := 0x00
  s := 0x00
  pc := 0x0000
  ea := 0x0000
  ir := 0x00
  opr := 0x00
  p := ⟨false, false, false, true, false, false⟩
  nmiLine := false
  irqLines := 0
  nmiPrev := false
  nmiPending := false
  intPending := false
  intVector := 0xFFFE
  suspend := false
  run := .running
  resetReq := .reset
  position := .boundary
  latch := Latches.clear
  sched := ⟨0, 0, 0, .idle⟩
  active := none
  others := []
  mem := []
  devices := []
  history := []
  report := none
  driver := []

end Sys2Proof.Machine
end

