-- ==== Sys2Proof/Machine/Flags.lean ====
section
/-! DEFINITION. Flag computations: the packed views (R27 to R29), setNZ (R12), the adder and the decimal algorithms (R190 to R192), compares (R198), shifts and rotates (R209 to R212). -/

namespace Sys2Proof.Machine

/-! ### Packed views -/

/-- A flag as one bit of a byte. -/
def bit (f : Bool) (k : Nat) : Byte := if f then 1#8 <<< k else 0

/-- `P_live` (R27): bit 5 is 1, bit 4 is 0. -/
def Flags.live (p : Flags) : Byte :=
  bit p.n 7 ||| bit p.v 6 ||| 0x20 ||| bit p.d 3 ||| bit p.i 2 ||| bit p.z 1 ||| bit p.c 0

/-- `P_push` (R28): `P_live` with bit 4 set, for PHP and BRK. -/
def Flags.push (p : Flags) : Byte := p.live ||| 0x10

/-- Loading the flags from a packed byte (R29); bits 5 and 4 are ignored. -/
def Flags.load (b : Byte) : Flags :=
  ⟨b.getLsbD 7, b.getLsbD 6, b.getLsbD 3, b.getLsbD 2, b.getLsbD 1, b.getLsbD 0⟩

/-! ### N and Z -/

/-- Bit 7 of a byte. -/
def bit7 (v : Byte) : Bool := v.getLsbD 7

/-- `setNZ` (R12) on the flags. -/
def Flags.setNZ (p : Flags) (v : Byte) : Flags :=
  { p with n := bit7 v, z := v == 0 }

/-! ### The adder -/

/-- The result of an addition or subtraction with its flags. -/
structure AluOut where
  r : Byte
  c : Bool
  v : Bool
  n : Bool
  z : Bool
  deriving DecidableEq, Repr

/-- `add8` (R190): the 9-bit sum; V by the exclusive-or idiom on sign bits. N and Z are those of the result. -/
def add8 (a b : Byte) (cin : Bool) : AluOut :=
  let s := a.toNat + b.toNat + cin.toNat
  let r := BitVec.ofNat 8 s
  { r := r
    c := decide (256 ≤ s)
    v := bit7 (~~~(a ^^^ b) &&& (a ^^^ r))
    n := bit7 r
    z := r == 0 }

/-- `adc_dec` (R191). The intermediate `t` is the exact sum, not cut to 9 bits after the adjustment. Log 10. -/
def adcDec (a b : Byte) (cin : Bool) : AluOut :=
  let al₀ := a.toNat % 16 + b.toNat % 16 + cin.toNat
  let al := if 0x0A ≤ al₀ then (al₀ + 0x06) % 16 + 0x10 else al₀
  let t := (a &&& 0xF0).toNat + (b &&& 0xF0).toNat + al
  let t' := if 0xA0 ≤ t then t + 0x60 else t
  { r := BitVec.ofNat 8 t'
    c := decide (0x100 ≤ t')
    v := bit7 (~~~(a ^^^ b) &&& (a ^^^ BitVec.ofNat 8 t))
    n := bit7 (BitVec.ofNat 8 t)
    z := (add8 a b cin).z }

/-- `sbc_dec` (R192): all four flags come from the binary subtraction; only the result is decimal. -/
def sbcDec (a b : Byte) (cin : Bool) : AluOut :=
  let bin := add8 a (~~~b) cin
  let al₀ : Int := (a.toNat % 16 : Nat) - (b.toNat % 16 : Nat) + (cin.toNat : Nat) - 1
  let al : Int := if al₀ < 0 then (al₀ - 0x06) % 16 - 0x10 else al₀
  let t : Int := ((a &&& 0xF0).toNat : Nat) - ((b &&& 0xF0).toNat : Nat) + al
  let t' : Int := if t < 0 then t - 0x60 else t
  { bin with r := BitVec.ofInt 8 t' }

/-- The flags after an addition or subtraction: C, V, N and Z (R193, R194). -/
def Flags.ofAlu (p : Flags) (o : AluOut) : Flags :=
  { p with c := o.c, v := o.v, n := o.n, z := o.z }

/-- Whether arithmetic is decimal: the D flag, honoured when `DECIMAL_ENABLED` (R193, R194, R281, D2). -/
def Flags.decimal (p : Flags) : Bool := p.d && Config.decimalEnabled

/-- The addition that ADC performs under the flags `p` (R193). -/
def adcOut (p : Flags) (a m : Byte) : AluOut :=
  if p.decimal then adcDec a m p.c else add8 a m p.c

/-- The subtraction that SBC performs under the flags `p` (R194): binary SBC is the addition of the complement. -/
def sbcOut (p : Flags) (a m : Byte) : AluOut :=
  if p.decimal then sbcDec a m p.c else add8 a (~~~m) p.c

/-! ### Compare -/

/-- `cmp8` (R198) on the flags: always binary; V and D are not changed. -/
def Flags.cmp (p : Flags) (reg m : Byte) : Flags :=
  { p.setNZ (reg - m) with c := decide (m.toNat ≤ reg.toNat) }

/-- The flags after BIT (R202). -/
def Flags.bitTest (p : Flags) (a m : Byte) : Flags :=
  { p with n := m.getLsbD 7, v := m.getLsbD 6, z := (a &&& m) == 0 }

/-! ### Shifts and rotates -/

/-- `asl_op` (R209): the new byte and the new flags. -/
def aslOut (p : Flags) (v : Byte) : Byte × Flags :=
  let r := v <<< 1
  (r, { p.setNZ r with c := v.getLsbD 7 })

/-- `lsr_op` (R210). -/
def lsrOut (p : Flags) (v : Byte) : Byte × Flags :=
  let r := v >>> 1
  (r, { p.setNZ r with c := v.getLsbD 0 })

/-- `rol_op` (R211): the old carry enters at bit 0. -/
def rolOut (p : Flags) (v : Byte) : Byte × Flags :=
  let r := v <<< 1 ||| bit p.c 0
  (r, { p.setNZ r with c := v.getLsbD 7 })

/-- `ror_op` (R212): the old carry enters at bit 7. -/
def rorOut (p : Flags) (v : Byte) : Byte × Flags :=
  let r := v >>> 1 ||| bit p.c 7
  (r, { p.setNZ r with c := v.getLsbD 0 })

/-! ### ARR -/

/-- The rotated byte of ARR, from `t = A & m` (R281). -/
def arrRotate (p : Flags) (t : Byte) : Byte := t >>> 1 ||| bit p.c 7

/-- ARR in decimal mode (R281). -/
def arrDec (p : Flags) (t : Byte) : Byte × Flags :=
  let r := arrRotate p t
  let lo := t.toNat % 16
  let hi := t.toNat / 16
  let r₁ := if 5 < lo + lo % 2 then (r &&& 0xF0) ||| ((r + 6) &&& 0x0F) else r
  let c := decide (5 < hi + hi % 2)
  let r₂ := if c then r₁ + 0x60 else r₁
  (r₂, { p with n := p.c, z := r == 0, v := (t ^^^ r).getLsbD 6, c := c })

/-- ARR in binary mode (R281). -/
def arrBin (p : Flags) (t : Byte) : Byte × Flags :=
  let r := arrRotate p t
  (r, { p.setNZ r with c := r.getLsbD 6, v := r.getLsbD 6 ^^ r.getLsbD 5 })

/-- The result and the flags of ARR on the byte `t = A & m` (R281). -/
def arrOut (p : Flags) (t : Byte) : Byte × Flags :=
  if p.decimal then arrDec p t else arrBin p t

end Sys2Proof.Machine
end

