-- ==== Sys2Proof/Machine/Ops.lean ====
section
/-! DEFINITION. The named operations over registers, memory and the bus: register views (R22), memory, the interrupt poll (R313), the transaction step (R61), running a sequence of transactions with yield and resumption (R120, R342), the interrupt entry (R321) and the return from it (R244), the reset sequence (R362), the boundary decision (R318) and the opcode fetch (R99). -/

namespace Sys2Proof.Machine

/-! ### Register-file aliasing (R22) -/

/-- The low view of an aliased word: bits 7:0 (R22, R24). -/
def lo8 (w : Word) : Byte := w.setWidth 8

/-- The high view of an aliased word: bits 15:8 (R22, R24). -/
def hi8 (w : Word) : Byte := (w >>> 8).setWidth 8

/-- The word made of a high and a low byte. -/
def word (hi lo : Byte) : Word := hi.setWidth 16 <<< 8 ||| lo.setWidth 16

/-- A write through the low view: no carry into the high byte (R22). -/
def writeLo (w : Word) (v : Byte) : Word := word (hi8 w) v

/-- A write through the high view (R22). -/
def writeHi (w : Word) (v : Byte) : Word := word v (lo8 w)

/-- An address in page 0 (R15). -/
def zeroPage (b : Byte) : Word := word 0 b

/-- The stack address `0x0100 | S` (R12, R67). -/
def stackAddr (s : State) : Word := word 1 s.s

/-! ### Memory (R66) -/

namespace Memory

/-- What a byte of memory that nothing has written reads as. Log 1. -/
def blank : Byte := 0x00

/-- Read one byte. -/
def read : List Host.Cell → Nat → Byte
  | [], _ => blank
  | (k, b) :: rest, a => if a < k then blank else if a = k then b else read rest a

/-- Put a byte in front of the cells at higher addresses; a blank byte is not listed. -/
def put (a : Nat) (v : Byte) (rest : List Host.Cell) : List Host.Cell :=
  if v = blank then rest else (a, v) :: rest

/-- Write one byte, keeping the canonical form. -/
def write : List Host.Cell → Nat → Byte → List Host.Cell
  | [], a, v => put a v []
  | (k, b) :: rest, a, v =>
    if a < k then put a v ((k, b) :: rest)
    else if a = k then put a v rest
    else (k, b) :: write rest a v

/-- The canonical form from address `lo` on: addresses strictly rising, inside the address space (R66), no blank byte
listed. -/
def wfFrom : Nat → List Host.Cell → Bool
  | _, [] => true
  | lo, (k, b) :: rest => decide (lo ≤ k) && decide (k < 65536) && decide (b ≠ blank) && wfFrom (k + 1) rest

/-- The canonical form of a memory. -/
def wf (m : List Host.Cell) : Bool := wfFrom 0 m

end Memory

/-- Read the byte of plain memory at a bus address. -/
def peek (s : State) (a : Word) : Byte := Memory.read s.mem a.toNat

/-- Write a byte of plain memory at a bus address. -/
def poke (s : State) (a : Word) (v : Byte) : State := { s with mem := Memory.write s.mem a.toNat v }

/-! ### Contexts and their scheduler state (R34) -/

/-- The scheduler state of the context with handle `h`; `none` when there is no such context. -/
def schedOf (h : Nat) (s : State) : Option Sched :=
  match h with
  | 0 => some s.sched
  | k + 1 => (s.others[k]?).map OtherContext.sched

/-- Change the other context number `k`. -/
def updateOther (k : Nat) (f : OtherContext → OtherContext) (s : State) : State :=
  { s with others := s.others.modify k f }

/-- Change the scheduler state of the context with handle `h`. -/
def updateSched (h : Nat) (f : Sched → Sched) (s : State) : State :=
  match h with
  | 0 => { s with sched := f s.sched }
  | k + 1 => updateOther k (fun o => { o with sched := f o.sched }) s

/-- `GrantCycles` on a scheduler state (R341): additive. -/
def Sched.grant (n : Int) (q : Sched) : Sched := { q with budget := q.budget + n }

/-- `Stall` on a scheduler state (R64). -/
def Sched.stall (n : Nat) (q : Sched) : Sched := { q with stallPending := q.stallPending + n }

/-- The stall cycles that a transaction accounts for in step a: those pending, for a read (R61, R64). -/
def Sched.due (d : Dir) (q : Sched) : Nat :=
  match d with
  | .read => q.stallPending
  | .write => 0

/-- Step a of R61: account for `n` of the pending stall cycles. -/
def Sched.account (n : Nat) (q : Sched) : Sched :=
  { q with clock := q.clock + n, budget := q.budget - n, stallPending := q.stallPending - n }

/-- Undo step a: a failing transaction changes neither clock nor budget (R331). Log 7. -/
def Sched.unaccount (n : Nat) (q : Sched) : Sched :=
  { q with clock := q.clock - n, budget := q.budget + n, stallPending := q.stallPending + n }

/-- Step c of R61. -/
def Sched.tick (q : Sched) : Sched := { q with clock := q.clock + 1, budget := q.budget - 1 }

/-! ### The interrupt sampler -/

/-- Set or clear bit `i` of the level-triggered lines (R311). -/
def setLine (lines : Nat) (i : Nat) (asserted : Bool) : Nat :=
  if lines.testBit i = asserted then lines else lines ^^^ 2 ^ i

/-- `AssertLine` (R311): the call changes only the line; an unknown source is refused. -/
def assertLine (source : Source) (asserted : Bool) (s : State) : Except Misuse State :=
  match source with
  | .nmi => .ok { s with nmiLine := asserted }
  | .level i =>
    if i < Config.nirq then .ok { s with irqLines := setLine s.irqLines i asserted } else .error .unknownSource

/-- `poll()` (R313): the rising edge is latched, the level lines are not, the decision and the vector are replaced. -/
def poll (s : State) : State :=
  let pend := s.nmiPending || (s.nmiLine && !s.nmiPrev)
  { s with
    nmiPending := pend
    nmiPrev := s.nmiLine
    intPending := pend || (s.irqLines != 0 && !s.p.i)
    intVector := if pend then 0xFFFA else 0xFFFE }

/-! ### The resolver (R63) -/

/-- The calls that may be made at any time, during a transaction too (R63, R64, R311, R341, D26), and on a context in any
state: aborted (log 22), jammed or faulted (R341 over R293's "no budget changes": log 31). The others are out of contract
while a context is active (R334). -/
def callDuring (c : Call) (s : State) : Except Misuse State :=
  match c with
  | .assertLine source asserted => assertLine source asserted s
  | .stall h n => if (schedOf h s).isSome then .ok (updateSched h (Sched.stall n) s) else .error .unknownContext
  | .grantCycles h n =>
    if n < 0 then .error .negativeGrant
    else if (schedOf h s).isSome then .ok (updateSched h (Sched.grant n) s)
    else .error .unknownContext
  | .resume _ => .error .whileActive
  | .hardReset _ => .error .whileActive
  | .softReset _ => .error .whileActive
  | .abort _ => .error .whileActive

/-- The calls that a resolver made during one transaction, in order (R63, R334). -/
def collaborate : List CollabCall → State → Except Misuse State
  | [], s => .ok s
  | .call c :: rest, s =>
    match callDuring c s with
    | .ok s' => collaborate rest s'
    | .error m => .error m
  | .suspendCaller :: _, _ => .error .resolverSuspends

/-- Whether a transaction goes to the oracle RESOLVER: its address lies in a device window, or its bank byte is not 0
(plain memory has one bank). Log 2. -/
def toDevice (t : Txn) (s : State) : Bool :=
  t.bank != 0 || s.devices.any fun w => decide (w.first ≤ t.addr) && decide (t.addr ≤ w.last)

/-- The outcome of step b of R61. -/
inductive Resolved
  | answered (data : Byte) (s : State)
  | failed (payload : Payload) (s : State)
  | refused (m : Misuse)

/-- Step b of R61: the resolver answers the transaction. Plain memory answers itself; a device window asks the oracle,
whose value must be a byte for a read (R331). -/
def resolve (t : Txn) (s : State) : Resolved :=
  if toDevice t s then
    let reply := Config.resolver t s.history
    match collaborate reply.calls s with
    | .error m => .refused m
    | .ok s' =>
      match reply.answer, t.dir with
      | .thrown code, _ => .failed (.thrown code) s'
      | .value _, .write => .answered t.data s'
      | .value v, .read =>
        if 0 ≤ v ∧ v ≤ 255 then .answered (BitVec.ofInt 8 v) s' else .failed (.notAByte v) s'
  else
    match t.dir with
    | .read => .answered (peek s t.addr) s
    | .write => .answered t.data (poke s t.addr t.data)

/-! ### Bus transactions (R61) -/

/-- Append a performed transaction to the history with the clock before its tick (R61 step b, R65). -/
def record (h : Nat) (t : Txn) (data : Byte) (s : State) : State :=
  { s with history := ⟨h, ((schedOf h s).map Sched.clock).getD 0, t.dir, t.addr, data⟩ :: s.history }

/-- Steps a to c of R61 for the context with handle `h`. -/
def busCycle (h : Nat) (t : Txn) (s : State) : Resolved :=
  let n := ((schedOf h s).map (Sched.due t.dir)).getD 0
  match resolve t (updateSched h (Sched.account n) s) with
  | .refused m => .refused m
  | .failed e s' => .failed e (updateSched h (Sched.unaccount n) s')
  | .answered d s' => .answered d (updateSched h Sched.tick (record h t d s'))

/-- The core stops executing and reports to the driver (R332, R342). -/
def stop (status : Status) (s : State) : State :=
  { s with
    sched := { s.sched with ctx := .suspended }
    active := none
    report := some ⟨0, status, s.sched.budget⟩ }

/-- The outcome of steps 0 to d of one transaction of the core. -/
inductive TxnOut
  /-- The transaction is done and the context goes on at step e. -/
  | done (data : Byte) (s : State)
  /-- The context has stopped: it yielded (step d), or the resolver failed (step b). -/
  | stopped (s : State)
  | refused (m : Misuse)

/-- Steps 0 to d of R61 for transaction `k` of the sequence `seq`; `sus` marks a transaction written `[S]` (R316). -/
def transact (seq : SeqKind) (k : Nat) (sus : Bool) (t : Txn) (s : State) : TxnOut :=
  let s₀ := { s with suspend := s.suspend || sus }
  let s₁ := if s₀.suspend then s₀ else poll s₀
  match busCycle 0 t s₁ with
  | .refused m => .refused m
  | .failed e s₂ => .stopped (stop (.faulted e) { s₂ with run := .faulted e, position := .inTxn seq k 0 })
  | .answered d s₂ =>
    if s₂.sched.budget ≤ 0 then .stopped (stop .exhausted { s₂ with position := .inTxn seq k d })
    else .done d s₂

/-- Step e of R61: the polling mask ends, and the transaction returns to its sequence. -/
def stepE (s : State) : State := { s with suspend := false, position := .boundary }

/-! ### Sequences of transactions (R120) -/

/-- One line of a sequence: its transaction, whether it is written `[S]`, the register updates after it (R13), and
whether the sequence ends there. -/
structure Micro where
  txn : State → Txn
  sus : State → Bool := fun _ => false
  after : Byte → State → State := fun _ s => s
  ends : State → Bool := fun _ => false

/-- A read transaction of the core at an address (R11, R60). -/
def readTxn (addr : Word) : Txn := ⟨.read, addr, 0, 0⟩

/-- A write transaction of the core (R11, R60). -/
def writeTxn (addr : Word) (v : Byte) : Txn := ⟨.write, addr, v, 0⟩

/-- The end of a sequence: an instruction boundary (R15), where no latch is in use. -/
def finish (s : State) : State := { s with position := .boundary, latch := Latches.clear }

/-- Run the lines of a sequence, the first of them being transaction `k`, until the sequence ends or the context stops
(R120, R342). -/
def runFrom (seq : SeqKind) : Nat → List Micro → State → Result
  | _, [], s => .next (finish s)
  | k, m :: rest, s =>
    match transact seq k (m.sus s) (m.txn s) s with
    | .refused e => .refused (.outOfContract e)
    | .stopped s' => .next s'
    | .done d s' =>
      let s'' := m.after d (stepE s')
      if m.ends s'' then .next (finish s'') else runFrom seq (k + 1) rest s''

/-- Run a sequence whose first line is transaction `first`: from its start at a boundary, or from the retained position,
finishing at step e the transaction that the context yielded in (R342). A position that the sequence does not have is
refused (R333, U9). Log 20. -/
def runSeq (seq : SeqKind) (first : Nat) (lines : List Micro) (s : State) : Result :=
  match s.position with
  | .boundary => runFrom seq first lines s
  | .inTxn q k d =>
    if q = seq ∧ first ≤ k then
      match lines.drop (k - first) with
      | [] => .refused .noSuchTransaction
      | m :: rest =>
        let s' := m.after d (stepE s)
        if m.ends s' then .next (finish s') else runFrom seq (k + 1) rest s'
    else .refused .noSuchTransaction

/-- The lines of an instruction from its second transaction on (R99): T2 is transaction 1. -/
def runInstr (lines : List Micro) (s : State) : Result := runSeq .instr 1 lines s

/-! ### Lines that many sequences share -/

/-- `_ <- MemRead(PC, 1)`: a dummy read at PC, which is not incremented. -/
def dummyPc : Micro := { txn := fun s => readTxn s.pc }

/-- `MemRead(PC, 1); PC <- PC + 1`, the byte going where `f` says. -/
def fetchByte (f : Byte → State → State) : Micro :=
  { txn := fun s => readTxn s.pc, after := fun d s => f d { s with pc := s.pc + 1 } }

/-- `_ <- MemRead(0x0100 | S, 1)`: a dummy stack read. -/
def dummyStack : Micro := { txn := fun s => readTxn (stackAddr s) }

/-- A dummy stack read, then `S <- S + 1`. -/
def dummyStackInc : Micro :=
  { txn := fun s => readTxn (stackAddr s), after := fun _ s => { s with s := s.s + 1 } }

/-- `push(v)` (R12): write at the stack address, then `S <- S - 1`, then the further updates `f`. -/
def pushByte (v : State → Byte) (f : State → State := id) : Micro :=
  { txn := fun s => writeTxn (stackAddr s) (v s), after := fun _ s => f { s with s := s.s - 1 } }

/-- A stack read, then `S <- S + 1`, the byte going where `f` says. -/
def pullInc (f : Byte → State → State) : Micro :=
  { txn := fun s => readTxn (stackAddr s), after := fun d s => f d { s with s := s.s + 1 } }

/-- A stack read, the byte going where `f` says. -/
def pullLast (f : Byte → State → State) : Micro :=
  { txn := fun s => readTxn (stackAddr s), after := f }

/-- `PCL <- ` the byte (R22). -/
def setPcl (v : Byte) (s : State) : State := { s with pc := writeLo s.pc v }

/-- `PCH <- ` the byte (R22). -/
def setPch (v : Byte) (s : State) : State := { s with pc := writeHi s.pc v }

/-- The read of a vector's low byte into PCL. -/
def vectorLo (vec : State → Word) : Micro := { txn := fun s => readTxn (vec s), after := setPcl }

/-- The suspended read of a vector's high byte into PCH (R316). -/
def vectorHi (vec : State → Word) : Micro :=
  { txn := fun s => readTxn (vec s + 1), sus := fun _ => true, after := setPch }

/-- `P.I <- 1`. -/
def setI (s : State) : State := { s with p := { s.p with i := true } }

/-! ### Interrupt entry, return, reset -/

/-- The lines E1 to E7 of an interrupt entry (R321): two dummy reads at PC, PCH, PCL and P_live pushed, I set after the
status push, PC loaded through the latched vector, the last transaction suspended. -/
def entryLines : List Micro :=
  [ dummyPc,
    dummyPc,
    pushByte fun s => hi8 s.pc,
    pushByte fun s => lo8 s.pc,
    pushByte (fun s => s.p.live) setI,
    vectorLo fun s => s.latch.vec,
    vectorHi fun s => s.latch.vec ]

/-- What an interrupt entry does before E1 (R321): it latches the vector, and an edge-line entry clears the Pending
flag. -/
def entryStart (s : State) : State :=
  { s with
    latch := { s.latch with vec := s.intVector }
    nmiPending := s.nmiPending && s.intVector != 0xFFFA }

/-- Taking an interrupt (R321), from the boundary. -/
def beginEntry (s : State) : Result := runSeq .entry 0 entryLines (entryStart s)

/-- An interrupt entry that yielded, going on from its retained position. -/
def resumeEntry (s : State) : Result := runSeq .entry 0 entryLines s

/-- The lines T2 to T6 of the return from an interrupt (R244): status, PCL, PCH pulled; the flags in force before T5. -/
def returnLines : List Micro :=
  [ dummyPc,
    dummyStackInc,
    pullInc fun d s => { s with p := Flags.load d },
    pullInc setPcl,
    pullLast setPch ]

/-- A dummy stack read of the reset sequence, then `S <- S - 1`, then the further updates `f` (R362). -/
def resetStack (f : State → State := id) : Micro :=
  { txn := fun s => readTxn (stackAddr s), after := fun _ s => f { s with s := s.s - 1 } }

/-- The lines R1 to R7 of the reset sequence (R362). -/
def resetLines : List Micro :=
  [ dummyPc,
    dummyPc,
    resetStack,
    resetStack,
    resetStack setI,
    vectorLo fun _ => 0xFFFC,
    vectorHi fun _ => 0xFFFC ]

/-- What the reset sequence does before R1 (R362): it takes the request, and ends a suspension of polling that a
`SoftReset` left, so that R1 polls normally. Log 8. -/
def resetStart (s : State) : State := { s with resetReq := .none, suspend := false }

/-- The reset sequence, from the boundary (R362). -/
def beginReset (s : State) : Result := runSeq .reset 0 resetLines (resetStart s)

/-- A reset sequence that yielded, going on from its retained position. -/
def resumeReset (s : State) : Result := runSeq .reset 0 resetLines s

/-! ### The instruction boundary (R318) -/

/-- What the core does at an instruction boundary. -/
inductive BoundaryAction
  | report (status : Status)
  | reset
  | entry
  | fetch
  deriving DecidableEq, Repr

/-- The first applicable action of R318. -/
def boundaryAction (s : State) : BoundaryAction :=
  match s.run with
  | .jammed => .report .jammed
  | .faulted e => .report (.faulted e)
  | .running =>
    match s.resetReq with
    | .reset => .reset
    | .none => if s.intPending then .entry else .fetch

/-- The opcode fetch T1 (R99), steps 0 to d. -/
def fetchOpcode (s : State) : TxnOut := transact .instr 0 false (readTxn s.pc) s

/-- The opcode fetch from its step e on: `IR <- ` the byte, `PC <- PC + 1` (R99). -/
def latchOpcode (d : Byte) (s : State) : State := { stepE s with ir := d, pc := s.pc + 1 }

/-- The JAM opcode after its fetch (R293): the context is jammed, issues no further transaction and reports to the driver. -/
def jam (s : State) : Result := .next (stop .jammed (finish { s with run := .jammed }))

end Sys2Proof.Machine
end

