-- ==== Sys2Proof/Machine/Operands.lean ====
section
/-! DEFINITION. The addressing-mode sequencer (R120 to R137): one list of transactions per mode and access class, from T2 on (T1 is the opcode fetch of R99). -/

namespace Sys2Proof.Machine

/-- `op(v)`: what a read-class or immediate instruction does with its operand. -/
abbrev ReadOp := Byte → State → State

/-- `value()`: the byte that a write-class instruction stores. -/
abbrev StoreValue := State → Byte

/-- What a read-modify-write instruction does: `modify` gives the new byte and updates flags between the dummy write and
the real write (R121); `after` is the accumulator part of a combined operation, after the last write, on the modified
byte (R270). Log 9. -/
structure RmwOp where
  modify : Byte → State → Byte × State
  after : Byte → State → State := fun _ s => s

/-- A shift or rotate of R209 to R212 as a `modify`. -/
def modifyBy (f : Flags → Byte → Byte × Flags) (v : Byte) (s : State) : Byte × State :=
  ((f s.p v).1, { s with p := (f s.p v).2 })

/-- An index register: X or Y, as the mode says (R97). -/
abbrev Index := State → Byte

def indexX : Index := State.x
def indexY : Index := State.y

/-- The low byte of a sum carries out (R127). -/
def carryOut (a b : Byte) : Bool := decide (256 ≤ a.toNat + b.toNat)

/-! ### The operand accesses at EA -/

/-- `OPR <- MemRead(EA, 1); op(OPR)`. -/
def readEa (op : ReadOp) : List Micro :=
  [{ txn := fun s => readTxn s.ea, after := fun d s => op d { s with opr := d } }]

/-- `MemWrite(EA, 1, value())`. -/
def writeEa (value : StoreValue) : List Micro :=
  [{ txn := fun s => writeTxn s.ea (value s) }]

/-- The double write of R121: read, write the unmodified byte back, write the modified byte. -/
def modifyEa (op : RmwOp) : List Micro :=
  [ { txn := fun s => readTxn s.ea, after := fun d s => { s with opr := d } },
    { txn := fun s => writeTxn s.ea s.opr
      after := fun _ s =>
        let out := op.modify s.opr s
        { out.2 with latch := { out.2.latch with r := out.1 } } },
    { txn := fun s => writeTxn s.ea s.latch.r, after := fun _ s => op.after s.latch.r s } ]

/-! ### Non-memory modes -/

/-- Implied and accumulator modes (R122): a dummy read at PC, then the operation on registers. -/
def implied (op : State → State) : List Micro :=
  [{ txn := fun s => readTxn s.pc, after := fun _ s => op s }]

/-- Accumulator mode (R122): `A <- rmw_op(A)`. -/
def accumulator (f : Flags → Byte → Byte × Flags) : List Micro :=
  implied fun s => { s with a := (f s.p s.a).1, p := (f s.p s.a).2 }

/-- Immediate mode (R123). -/
def immediate (op : ReadOp) : List Micro :=
  [fetchByte fun d s => op d { s with opr := d }]

/-! ### How each mode forms EA -/

/-- T2 of the zero-page modes (R124, R125). -/
def fetchZeroPage : Micro := fetchByte fun d s => { s with ea := zeroPage d }

/-- T2 and T3 of zero page indexed (R125): the dummy read at the unindexed base, then an add in the low half only. -/
def zeroPageIndexed (idx : Index) : List Micro :=
  [ fetchZeroPage,
    { txn := fun s => readTxn s.ea
      after := fun _ s => { s with ea := writeLo s.ea (lo8 s.ea + idx s) } } ]

/-- `EAL <- MemRead(PC, 1); PC <- PC + 1` (R126). -/
def fetchEal : Micro := fetchByte fun d s => { s with ea := writeLo s.ea d }

/-- `EAH <- MemRead(PC, 1); PC <- PC + 1` (R126). -/
def fetchEah : Micro := fetchByte fun d s => { s with ea := writeHi s.ea d }

/-- T2 and T3 of absolute mode (R126). -/
def absoluteAddr : List Micro := [fetchEal, fetchEah]

/-- T2 and T3 of absolute indexed (R127): the carry `c` and the tentative address; `h` keeps the base high byte (R286);
`g` is what TAS does after T3 (R290). -/
def absoluteIndexed (idx : Index) (g : State → State := id) : List Micro :=
  [ fetchEal,
    fetchByte fun d s =>
      g { s with
          ea := word d (lo8 s.ea + idx s)
          latch := { s.latch with c := carryOut (lo8 s.ea) (idx s), h := d } } ]

/-- T2 of the indirect modes: the pointer byte (R130, R131). -/
def fetchPointer : Micro := fetchByte fun d s => { s with latch := { s.latch with p := d } }

/-- The read of the pointer's low byte in page 0 (R130, R131). -/
def pointerLo : Micro :=
  { txn := fun s => readTxn (zeroPage s.latch.p), after := fun d s => { s with latch := { s.latch with lo := d } } }

/-- T2 to T5 of indexed indirect (R130): the pointer is indexed and wraps within page 0. -/
def indexedIndirect : List Micro :=
  [ fetchPointer,
    { txn := fun s => readTxn (zeroPage s.latch.p)
      after := fun _ s => { s with latch := { s.latch with p := s.latch.p + s.x } } },
    pointerLo,
    { txn := fun s => readTxn (zeroPage (s.latch.p + 1))
      after := fun d s => { s with ea := word d s.latch.lo } } ]

/-- T2 to T4 of indirect indexed (R131): Y is added to the pointer's target; `c`, `h` as in absolute indexed. -/
def indirectIndexed : List Micro :=
  [ fetchPointer,
    pointerLo,
    { txn := fun s => readTxn (zeroPage (s.latch.p + 1))
      after := fun d s =>
        { s with
          ea := word d (s.latch.lo + s.y)
          latch := { s.latch with c := carryOut s.latch.lo s.y, h := d } } } ]

/-- `if c then EAH <- EAH + 1` (R127). -/
def fixPage (s : State) : State :=
  if s.latch.c then { s with ea := writeHi s.ea (hi8 s.ea + 1) } else s

/-- The read-class end of an indexed mode (R127, R131): a read at the tentative address and, only if the page was
crossed, a second read at the correct one. -/
def readIndexed (op : ReadOp) : List Micro :=
  { txn := fun s => readTxn s.ea
    after := fun d s => if s.latch.c then fixPage { s with opr := d } else op d { s with opr := d }
    ends := fun s => !s.latch.c } :: readEa op

/-- The dummy read at the tentative address of the write and read-modify-write classes (R128, R129, R132, R133). -/
def dummyTentative : Micro := { txn := fun s => readTxn s.ea, after := fun _ s => fixPage s }

/-! ### The procedures, one per mode and access class (R120) -/

def zeroPageRead (op : ReadOp) : List Micro := fetchZeroPage :: readEa op
def zeroPageWrite (v : StoreValue) : List Micro := fetchZeroPage :: writeEa v
def zeroPageModify (op : RmwOp) : List Micro := fetchZeroPage :: modifyEa op

def zeroPageIndexedRead (idx : Index) (op : ReadOp) : List Micro := zeroPageIndexed idx ++ readEa op
def zeroPageIndexedWrite (idx : Index) (v : StoreValue) : List Micro := zeroPageIndexed idx ++ writeEa v
def zeroPageIndexedModify (idx : Index) (op : RmwOp) : List Micro := zeroPageIndexed idx ++ modifyEa op

def absoluteRead (op : ReadOp) : List Micro := absoluteAddr ++ readEa op
def absoluteWrite (v : StoreValue) : List Micro := absoluteAddr ++ writeEa v
def absoluteModify (op : RmwOp) : List Micro := absoluteAddr ++ modifyEa op

def absoluteIndexedRead (idx : Index) (op : ReadOp) : List Micro := absoluteIndexed idx ++ readIndexed op
def absoluteIndexedWrite (idx : Index) (v : StoreValue) : List Micro :=
  absoluteIndexed idx ++ dummyTentative :: writeEa v
def absoluteIndexedModify (idx : Index) (op : RmwOp) : List Micro :=
  absoluteIndexed idx ++ dummyTentative :: modifyEa op

def indexedIndirectRead (op : ReadOp) : List Micro := indexedIndirect ++ readEa op
def indexedIndirectWrite (v : StoreValue) : List Micro := indexedIndirect ++ writeEa v
def indexedIndirectModify (op : RmwOp) : List Micro := indexedIndirect ++ modifyEa op

def indirectIndexedRead (op : ReadOp) : List Micro := indirectIndexed ++ readIndexed op
def indirectIndexedWrite (v : StoreValue) : List Micro := indirectIndexed ++ dummyTentative :: writeEa v
def indirectIndexedModify (op : RmwOp) : List Micro := indirectIndexed ++ dummyTentative :: modifyEa op

/-! ### The last transaction of the SH group (R286) -/

/-- The byte stored: the source ANDed with the base high byte plus one. -/
def highAnd (reg : StoreValue) (s : State) : Byte := reg s &&& (s.latch.h + 1)

/-- The address stored to: on a page crossing the stored byte replaces the high byte. -/
def highAndAddr (reg : StoreValue) (s : State) : Word :=
  word (if s.latch.c then highAnd reg s else s.latch.h) (lo8 s.ea)

/-- The write of R286. -/
def writeHighAnd (reg : StoreValue) : List Micro :=
  [{ txn := fun s => writeTxn (highAndAddr reg s) (highAnd reg s) }]

/-- The SH group's absolute indexed sequence (R128 with R286); `g` as in `absoluteIndexed`. -/
def absoluteIndexedHighAnd (idx : Index) (reg : StoreValue) (g : State → State := id) : List Micro :=
  absoluteIndexed idx g ++ dummyTentative :: writeHighAnd reg

/-- The SH group's indirect indexed sequence (R132 with R286). -/
def indirectIndexedHighAnd (reg : StoreValue) : List Micro :=
  indirectIndexed ++ dummyTentative :: writeHighAnd reg

/-! ### Branches (R230) -/

/-- A conditional branch (R230): T3 and T4 happen only if it is taken, T4 only if the target lies in another page; the
last transaction of a taken branch is suspended. `latch.c` is `cross`. -/
def branch (cond : Flags → Bool) : List Micro :=
  [ { txn := fun s => readTxn s.pc
      after := fun d s =>
        let pc := s.pc + 1
        let target := pc + d.signExtend 16
        { s with
          opr := d
          pc := pc
          latch := { s.latch with target := target, c := hi8 target != hi8 pc } }
      ends := fun s => !cond s.p },
    { txn := fun s => readTxn s.pc
      sus := fun s => !s.latch.c
      after := fun _ s => { s with pc := writeLo s.pc (lo8 s.latch.target) }
      ends := fun s => !s.latch.c },
    { txn := fun s => readTxn s.pc
      sus := fun _ => true
      after := fun _ s => { s with pc := writeHi s.pc (hi8 s.latch.target) } } ]

end Sys2Proof.Machine
end

