-- ==== Sys2Proof/Machine/Alu.lean ====
section
/-! DEFINITION. Add and subtract, logic, compare and bit test (R193 to R202). One definition per instruction, from its second transaction on. -/

namespace Sys2Proof.Machine

/-- ADC's operation (R193). -/
def adcOp : ReadOp := fun m s =>
  let o := adcOut s.p s.a m
  { s with a := o.r, p := s.p.ofAlu o }

/-- SBC's operation (R194), also that of USBC (R285). -/
def sbcOp : ReadOp := fun m s =>
  let o := sbcOut s.p s.a m
  { s with a := o.r, p := s.p.ofAlu o }

/-- AND (R195). -/
def andOp : ReadOp := fun m s => { s with a := s.a &&& m, p := s.p.setNZ (s.a &&& m) }

/-- ORA (R196). -/
def oraOp : ReadOp := fun m s => { s with a := s.a ||| m, p := s.p.setNZ (s.a ||| m) }

/-- EOR (R197). -/
def eorOp : ReadOp := fun m s => { s with a := s.a ^^^ m, p := s.p.setNZ (s.a ^^^ m) }

/-- CMP (R199). -/
def cmpOp : ReadOp := fun m s => { s with p := s.p.cmp s.a m }

/-- CPX (R200). -/
def cpxOp : ReadOp := fun m s => { s with p := s.p.cmp s.x m }

/-- CPY (R201). -/
def cpyOp : ReadOp := fun m s => { s with p := s.p.cmp s.y m }

/-- BIT (R202). -/
def bitOp : ReadOp := fun m s => { s with p := s.p.bitTest s.a m }

/-! ### ADC -/

/-- `61` ADC (zp,X) (R193, R130). -/
def execAdcIzx (s : State) : Result := runInstr (indexedIndirectRead adcOp) s

/-- `65` ADC zp (R193, R124). -/
def execAdcZp (s : State) : Result := runInstr (zeroPageRead adcOp) s

/-- `69` ADC #imm (R193, R123). -/
def execAdcImm (s : State) : Result := runInstr (immediate adcOp) s

/-- `6D` ADC abs (R193, R126). -/
def execAdcAbs (s : State) : Result := runInstr (absoluteRead adcOp) s

/-- `71` ADC (zp),Y (R193, R131). -/
def execAdcIzy (s : State) : Result := runInstr (indirectIndexedRead adcOp) s

/-- `75` ADC zp,X (R193, R125). -/
def execAdcZpx (s : State) : Result := runInstr (zeroPageIndexedRead indexX adcOp) s

/-- `79` ADC abs,Y (R193, R127). -/
def execAdcAby (s : State) : Result := runInstr (absoluteIndexedRead indexY adcOp) s

/-- `7D` ADC abs,X (R193, R127). -/
def execAdcAbx (s : State) : Result := runInstr (absoluteIndexedRead indexX adcOp) s

/-! ### SBC -/

/-- `E1` SBC (zp,X) (R194, R130). -/
def execSbcIzx (s : State) : Result := runInstr (indexedIndirectRead sbcOp) s

/-- `E5` SBC zp (R194, R124). -/
def execSbcZp (s : State) : Result := runInstr (zeroPageRead sbcOp) s

/-- `E9` SBC #imm (R194, R123). -/
def execSbcImm (s : State) : Result := runInstr (immediate sbcOp) s

/-- `ED` SBC abs (R194, R126). -/
def execSbcAbs (s : State) : Result := runInstr (absoluteRead sbcOp) s

/-- `F1` SBC (zp),Y (R194, R131). -/
def execSbcIzy (s : State) : Result := runInstr (indirectIndexedRead sbcOp) s

/-- `F5` SBC zp,X (R194, R125). -/
def execSbcZpx (s : State) : Result := runInstr (zeroPageIndexedRead indexX sbcOp) s

/-- `F9` SBC abs,Y (R194, R127). -/
def execSbcAby (s : State) : Result := runInstr (absoluteIndexedRead indexY sbcOp) s

/-- `FD` SBC abs,X (R194, R127). -/
def execSbcAbx (s : State) : Result := runInstr (absoluteIndexedRead indexX sbcOp) s

/-! ### AND -/

/-- `21` AND (zp,X) (R195, R130). -/
def execAndIzx (s : State) : Result := runInstr (indexedIndirectRead andOp) s

/-- `25` AND zp (R195, R124). -/
def execAndZp (s : State) : Result := runInstr (zeroPageRead andOp) s

/-- `29` AND #imm (R195, R123). -/
def execAndImm (s : State) : Result := runInstr (immediate andOp) s

/-- `2D` AND abs (R195, R126). -/
def execAndAbs (s : State) : Result := runInstr (absoluteRead andOp) s

/-- `31` AND (zp),Y (R195, R131). -/
def execAndIzy (s : State) : Result := runInstr (indirectIndexedRead andOp) s

/-- `35` AND zp,X (R195, R125). -/
def execAndZpx (s : State) : Result := runInstr (zeroPageIndexedRead indexX andOp) s

/-- `39` AND abs,Y (R195, R127). -/
def execAndAby (s : State) : Result := runInstr (absoluteIndexedRead indexY andOp) s

/-- `3D` AND abs,X (R195, R127). -/
def execAndAbx (s : State) : Result := runInstr (absoluteIndexedRead indexX andOp) s

/-! ### ORA -/

/-- `01` ORA (zp,X) (R196, R130). -/
def execOraIzx (s : State) : Result := runInstr (indexedIndirectRead oraOp) s

/-- `05` ORA zp (R196, R124). -/
def execOraZp (s : State) : Result := runInstr (zeroPageRead oraOp) s

/-- `09` ORA #imm (R196, R123). -/
def execOraImm (s : State) : Result := runInstr (immediate oraOp) s

/-- `0D` ORA abs (R196, R126). -/
def execOraAbs (s : State) : Result := runInstr (absoluteRead oraOp) s

/-- `11` ORA (zp),Y (R196, R131). -/
def execOraIzy (s : State) : Result := runInstr (indirectIndexedRead oraOp) s

/-- `15` ORA zp,X (R196, R125). -/
def execOraZpx (s : State) : Result := runInstr (zeroPageIndexedRead indexX oraOp) s

/-- `19` ORA abs,Y (R196, R127). -/
def execOraAby (s : State) : Result := runInstr (absoluteIndexedRead indexY oraOp) s

/-- `1D` ORA abs,X (R196, R127). -/
def execOraAbx (s : State) : Result := runInstr (absoluteIndexedRead indexX oraOp) s

/-! ### EOR -/

/-- `41` EOR (zp,X) (R197, R130). -/
def execEorIzx (s : State) : Result := runInstr (indexedIndirectRead eorOp) s

/-- `45` EOR zp (R197, R124). -/
def execEorZp (s : State) : Result := runInstr (zeroPageRead eorOp) s

/-- `49` EOR #imm (R197, R123). -/
def execEorImm (s : State) : Result := runInstr (immediate eorOp) s

/-- `4D` EOR abs (R197, R126). -/
def execEorAbs (s : State) : Result := runInstr (absoluteRead eorOp) s

/-- `51` EOR (zp),Y (R197, R131). -/
def execEorIzy (s : State) : Result := runInstr (indirectIndexedRead eorOp) s

/-- `55` EOR zp,X (R197, R125). -/
def execEorZpx (s : State) : Result := runInstr (zeroPageIndexedRead indexX eorOp) s

/-- `59` EOR abs,Y (R197, R127). -/
def execEorAby (s : State) : Result := runInstr (absoluteIndexedRead indexY eorOp) s

/-- `5D` EOR abs,X (R197, R127). -/
def execEorAbx (s : State) : Result := runInstr (absoluteIndexedRead indexX eorOp) s

/-! ### CMP -/

/-- `C1` CMP (zp,X) (R199, R130). -/
def execCmpIzx (s : State) : Result := runInstr (indexedIndirectRead cmpOp) s

/-- `C5` CMP zp (R199, R124). -/
def execCmpZp (s : State) : Result := runInstr (zeroPageRead cmpOp) s

/-- `C9` CMP #imm (R199, R123). -/
def execCmpImm (s : State) : Result := runInstr (immediate cmpOp) s

/-- `CD` CMP abs (R199, R126). -/
def execCmpAbs (s : State) : Result := runInstr (absoluteRead cmpOp) s

/-- `D1` CMP (zp),Y (R199, R131). -/
def execCmpIzy (s : State) : Result := runInstr (indirectIndexedRead cmpOp) s

/-- `D5` CMP zp,X (R199, R125). -/
def execCmpZpx (s : State) : Result := runInstr (zeroPageIndexedRead indexX cmpOp) s

/-- `D9` CMP abs,Y (R199, R127). -/
def execCmpAby (s : State) : Result := runInstr (absoluteIndexedRead indexY cmpOp) s

/-- `DD` CMP abs,X (R199, R127). -/
def execCmpAbx (s : State) : Result := runInstr (absoluteIndexedRead indexX cmpOp) s

/-! ### CPX -/

/-- `E0` CPX #imm (R200, R123). -/
def execCpxImm (s : State) : Result := runInstr (immediate cpxOp) s

/-- `E4` CPX zp (R200, R124). -/
def execCpxZp (s : State) : Result := runInstr (zeroPageRead cpxOp) s

/-- `EC` CPX abs (R200, R126). -/
def execCpxAbs (s : State) : Result := runInstr (absoluteRead cpxOp) s

/-! ### CPY -/

/-- `C0` CPY #imm (R201, R123). -/
def execCpyImm (s : State) : Result := runInstr (immediate cpyOp) s

/-- `C4` CPY zp (R201, R124). -/
def execCpyZp (s : State) : Result := runInstr (zeroPageRead cpyOp) s

/-- `CC` CPY abs (R201, R126). -/
def execCpyAbs (s : State) : Result := runInstr (absoluteRead cpyOp) s

/-! ### BIT -/

/-- `24` BIT zp (R202, R124). -/
def execBitZp (s : State) : Result := runInstr (zeroPageRead bitOp) s

/-- `2C` BIT abs (R202, R126). -/
def execBitAbs (s : State) : Result := runInstr (absoluteRead bitOp) s

end Sys2Proof.Machine
end

