-- ==== Sys2Proof/Machine/Control.lean ====
section
/-! DEFINITION. Branches, jumps, subroutines, RTI and BRK (R230 to R245). One definition per instruction, from its second transaction on. -/

namespace Sys2Proof.Machine

/-- T2 and T3 of JMP absolute (R240): PC is not incremented past the high operand byte, it is replaced. -/
def jmpLines : List Micro :=
  [ fetchEal,
    { txn := fun s => readTxn s.pc
      after := fun d s => { s with ea := writeHi s.ea d, pc := writeHi s.ea d } } ]

/-- T2 to T5 of JMP indirect (R241): the pointer is incremented through the low view only, the page-wrap bug. -/
def jmpIndirectLines : List Micro :=
  [ fetchEal,
    fetchEah,
    { txn := fun s => readTxn s.ea
      after := fun d s =>
        { s with latch := { s.latch with lo := d }, ea := writeLo s.ea (lo8 s.ea + 1) } },
    { txn := fun s => readTxn s.ea
      after := fun d s => { s with pc := word d s.latch.lo } } ]

/-- T2 to T6 of JSR (R242): the high operand byte is fetched after the pushes. -/
def jsrLines : List Micro :=
  [ fetchByte fun d s => { s with latch := { s.latch with lo := d } },
    dummyStack,
    pushByte fun s => hi8 s.pc,
    pushByte fun s => lo8 s.pc,
    { txn := fun s => readTxn s.pc
      after := fun d s => { s with pc := word d s.latch.lo } } ]

/-- T2 to T6 of RTS (R243). -/
def rtsLines : List Micro :=
  [ dummyPc,
    dummyStackInc,
    pullInc setPcl,
    pullLast setPch,
    fetchByte fun _ s => s ]

/-- T2 to T7 of BRK (R245): the padding byte, the pushes with P_push, I set, the vector at 0xFFFE. -/
def brkLines : List Micro :=
  [ fetchByte fun _ s => s,
    pushByte fun s => hi8 s.pc,
    pushByte fun s => lo8 s.pc,
    pushByte (fun s => s.p.push) setI,
    vectorLo fun _ => 0xFFFE,
    vectorHi fun _ => 0xFFFE ]

/-! ### BPL -/

/-- `10` BPL rel (R231, R230). -/
def execBpl (s : State) : Result := runInstr (branch fun p => !p.n) s

/-! ### BMI -/

/-- `30` BMI rel (R232, R230). -/
def execBmi (s : State) : Result := runInstr (branch fun p => p.n) s

/-! ### BVC -/

/-- `50` BVC rel (R233, R230). -/
def execBvc (s : State) : Result := runInstr (branch fun p => !p.v) s

/-! ### BVS -/

/-- `70` BVS rel (R234, R230). -/
def execBvs (s : State) : Result := runInstr (branch fun p => p.v) s

/-! ### BCC -/

/-- `90` BCC rel (R235, R230). -/
def execBcc (s : State) : Result := runInstr (branch fun p => !p.c) s

/-! ### BCS -/

/-- `B0` BCS rel (R236, R230). -/
def execBcs (s : State) : Result := runInstr (branch fun p => p.c) s

/-! ### BNE -/

/-- `D0` BNE rel (R237, R230). -/
def execBne (s : State) : Result := runInstr (branch fun p => !p.z) s

/-! ### BEQ -/

/-- `F0` BEQ rel (R238, R230). -/
def execBeq (s : State) : Result := runInstr (branch fun p => p.z) s

/-! ### JMP -/

/-- `4C` JMP abs (R240). -/
def execJmpAbs (s : State) : Result := runInstr jmpLines s

/-- `6C` JMP (abs) (R241). -/
def execJmpInd (s : State) : Result := runInstr jmpIndirectLines s

/-! ### JSR -/

/-- `20` JSR abs (R242). -/
def execJsr (s : State) : Result := runInstr jsrLines s

/-! ### RTS -/

/-- `60` RTS (R243). -/
def execRts (s : State) : Result := runInstr rtsLines s

/-! ### RTI -/

/-- `40` RTI (R244). -/
def execRti (s : State) : Result := runInstr returnLines s

/-! ### BRK -/

/-- `00` BRK (R245). -/
def execBrk (s : State) : Result := runInstr brkLines s

end Sys2Proof.Machine
end

