-- ==== Sys2Proof/Machine/LoadStore.lean ====
section
/-! DEFINITION. Loads, stores and register transfers (R160 to R171). One definition per instruction, from its second transaction on. -/

namespace Sys2Proof.Machine

/-- LDA's operation (R160). -/
def loadA : ReadOp := fun v s => { s with a := v, p := s.p.setNZ v }

/-- LDX's operation (R161). -/
def loadX : ReadOp := fun v s => { s with x := v, p := s.p.setNZ v }

/-- LDY's operation (R162). -/
def loadY : ReadOp := fun v s => { s with y := v, p := s.p.setNZ v }

/-- STA's value (R163). -/
def storeA : StoreValue := State.a

/-- STX's value (R164). -/
def storeX : StoreValue := State.x

/-- STY's value (R165). -/
def storeY : StoreValue := State.y

/-- TAX (R166). -/
def taxOp (s : State) : State := { s with x := s.a, p := s.p.setNZ s.a }

/-- TAY (R167). -/
def tayOp (s : State) : State := { s with y := s.a, p := s.p.setNZ s.a }

/-- TXA (R168). -/
def txaOp (s : State) : State := { s with a := s.x, p := s.p.setNZ s.x }

/-- TYA (R169). -/
def tyaOp (s : State) : State := { s with a := s.y, p := s.p.setNZ s.y }

/-- TSX (R170). -/
def tsxOp (s : State) : State := { s with x := s.s, p := s.p.setNZ s.s }

/-- TXS writes no flag (R171). -/
def txsOp (s : State) : State := { s with s := s.x }

/-! ### LDA -/

/-- `A1` LDA (zp,X) (R160, R130). -/
def execLdaIzx (s : State) : Result := runInstr (indexedIndirectRead loadA) s

/-- `A5` LDA zp (R160, R124). -/
def execLdaZp (s : State) : Result := runInstr (zeroPageRead loadA) s

/-- `A9` LDA #imm (R160, R123). -/
def execLdaImm (s : State) : Result := runInstr (immediate loadA) s

/-- `AD` LDA abs (R160, R126). -/
def execLdaAbs (s : State) : Result := runInstr (absoluteRead loadA) s

/-- `B1` LDA (zp),Y (R160, R131). -/
def execLdaIzy (s : State) : Result := runInstr (indirectIndexedRead loadA) s

/-- `B5` LDA zp,X (R160, R125). -/
def execLdaZpx (s : State) : Result := runInstr (zeroPageIndexedRead indexX loadA) s

/-- `B9` LDA abs,Y (R160, R127). -/
def execLdaAby (s : State) : Result := runInstr (absoluteIndexedRead indexY loadA) s

/-- `BD` LDA abs,X (R160, R127). -/
def execLdaAbx (s : State) : Result := runInstr (absoluteIndexedRead indexX loadA) s

/-! ### LDX -/

/-- `A2` LDX #imm (R161, R123). -/
def execLdxImm (s : State) : Result := runInstr (immediate loadX) s

/-- `A6` LDX zp (R161, R124). -/
def execLdxZp (s : State) : Result := runInstr (zeroPageRead loadX) s

/-- `AE` LDX abs (R161, R126). -/
def execLdxAbs (s : State) : Result := runInstr (absoluteRead loadX) s

/-- `B6` LDX zp,Y (R161, R125). -/
def execLdxZpy (s : State) : Result := runInstr (zeroPageIndexedRead indexY loadX) s

/-- `BE` LDX abs,Y (R161, R127). -/
def execLdxAby (s : State) : Result := runInstr (absoluteIndexedRead indexY loadX) s

/-! ### LDY -/

/-- `A0` LDY #imm (R162, R123). -/
def execLdyImm (s : State) : Result := runInstr (immediate loadY) s

/-- `A4` LDY zp (R162, R124). -/
def execLdyZp (s : State) : Result := runInstr (zeroPageRead loadY) s

/-- `AC` LDY abs (R162, R126). -/
def execLdyAbs (s : State) : Result := runInstr (absoluteRead loadY) s

/-- `B4` LDY zp,X (R162, R125). -/
def execLdyZpx (s : State) : Result := runInstr (zeroPageIndexedRead indexX loadY) s

/-- `BC` LDY abs,X (R162, R127). -/
def execLdyAbx (s : State) : Result := runInstr (absoluteIndexedRead indexX loadY) s

/-! ### STA -/

/-- `81` STA (zp,X) (R163, R130). -/
def execStaIzx (s : State) : Result := runInstr (indexedIndirectWrite storeA) s

/-- `85` STA zp (R163, R124). -/
def execStaZp (s : State) : Result := runInstr (zeroPageWrite storeA) s

/-- `8D` STA abs (R163, R126). -/
def execStaAbs (s : State) : Result := runInstr (absoluteWrite storeA) s

/-- `91` STA (zp),Y (R163, R132). -/
def execStaIzy (s : State) : Result := runInstr (indirectIndexedWrite storeA) s

/-- `95` STA zp,X (R163, R125). -/
def execStaZpx (s : State) : Result := runInstr (zeroPageIndexedWrite indexX storeA) s

/-- `99` STA abs,Y (R163, R128). -/
def execStaAby (s : State) : Result := runInstr (absoluteIndexedWrite indexY storeA) s

/-- `9D` STA abs,X (R163, R128). -/
def execStaAbx (s : State) : Result := runInstr (absoluteIndexedWrite indexX storeA) s

/-! ### STX -/

/-- `86` STX zp (R164, R124). -/
def execStxZp (s : State) : Result := runInstr (zeroPageWrite storeX) s

/-- `8E` STX abs (R164, R126). -/
def execStxAbs (s : State) : Result := runInstr (absoluteWrite storeX) s

/-- `96` STX zp,Y (R164, R125). -/
def execStxZpy (s : State) : Result := runInstr (zeroPageIndexedWrite indexY storeX) s

/-! ### STY -/

/-- `84` STY zp (R165, R124). -/
def execStyZp (s : State) : Result := runInstr (zeroPageWrite storeY) s

/-- `8C` STY abs (R165, R126). -/
def execStyAbs (s : State) : Result := runInstr (absoluteWrite storeY) s

/-- `94` STY zp,X (R165, R125). -/
def execStyZpx (s : State) : Result := runInstr (zeroPageIndexedWrite indexX storeY) s

/-! ### TAX -/

/-- `AA` TAX (R166, R122). -/
def execTax (s : State) : Result := runInstr (implied taxOp) s

/-! ### TAY -/

/-- `A8` TAY (R167, R122). -/
def execTay (s : State) : Result := runInstr (implied tayOp) s

/-! ### TXA -/

/-- `8A` TXA (R168, R122). -/
def execTxa (s : State) : Result := runInstr (implied txaOp) s

/-! ### TYA -/

/-- `98` TYA (R169, R122). -/
def execTya (s : State) : Result := runInstr (implied tyaOp) s

/-! ### TSX -/

/-- `BA` TSX (R170, R122). -/
def execTsx (s : State) : Result := runInstr (implied tsxOp) s

/-! ### TXS -/

/-- `9A` TXS (R171, R122). -/
def execTxs (s : State) : Result := runInstr (implied txsOp) s

end Sys2Proof.Machine
end

