-- ==== Sys2Proof/Machine/NopJam.lean ====
section
/-! DEFINITION. The undocumented NOP-equivalents and JAM (R292, R293). One definition per instruction, from its second transaction on. -/

namespace Sys2Proof.Machine

/-- The operation of a NOP-equivalent: nothing (R292). The operand latch OPR is set by the sequence. Log 21. -/
def discard : ReadOp := fun _ s => s

/-! ### NOP -/

/-- `04` NOP zp (R292, R124). -/
def execNopZp04 (s : State) : Result := runInstr (zeroPageRead discard) s

/-- `0C` NOP abs (R292, R126). -/
def execNopAbs0C (s : State) : Result := runInstr (absoluteRead discard) s

/-- `14` NOP zp,X (R292, R125). -/
def execNopZpx14 (s : State) : Result := runInstr (zeroPageIndexedRead indexX discard) s

/-- `1A` NOP (R292, R122). -/
def execNopImp1A (s : State) : Result := runInstr (implied id) s

/-- `1C` NOP abs,X (R292, R127). -/
def execNopAbx1C (s : State) : Result := runInstr (absoluteIndexedRead indexX discard) s

/-- `34` NOP zp,X (R292, R125). -/
def execNopZpx34 (s : State) : Result := runInstr (zeroPageIndexedRead indexX discard) s

/-- `3A` NOP (R292, R122). -/
def execNopImp3A (s : State) : Result := runInstr (implied id) s

/-- `3C` NOP abs,X (R292, R127). -/
def execNopAbx3C (s : State) : Result := runInstr (absoluteIndexedRead indexX discard) s

/-- `44` NOP zp (R292, R124). -/
def execNopZp44 (s : State) : Result := runInstr (zeroPageRead discard) s

/-- `54` NOP zp,X (R292, R125). -/
def execNopZpx54 (s : State) : Result := runInstr (zeroPageIndexedRead indexX discard) s

/-- `5A` NOP (R292, R122). -/
def execNopImp5A (s : State) : Result := runInstr (implied id) s

/-- `5C` NOP abs,X (R292, R127). -/
def execNopAbx5C (s : State) : Result := runInstr (absoluteIndexedRead indexX discard) s

/-- `64` NOP zp (R292, R124). -/
def execNopZp64 (s : State) : Result := runInstr (zeroPageRead discard) s

/-- `74` NOP zp,X (R292, R125). -/
def execNopZpx74 (s : State) : Result := runInstr (zeroPageIndexedRead indexX discard) s

/-- `7A` NOP (R292, R122). -/
def execNopImp7A (s : State) : Result := runInstr (implied id) s

/-- `7C` NOP abs,X (R292, R127). -/
def execNopAbx7C (s : State) : Result := runInstr (absoluteIndexedRead indexX discard) s

/-- `80` NOP #imm (R292, R123). -/
def execNopImm80 (s : State) : Result := runInstr (immediate discard) s

/-- `82` NOP #imm (R292, R123). -/
def execNopImm82 (s : State) : Result := runInstr (immediate discard) s

/-- `89` NOP #imm (R292, R123). -/
def execNopImm89 (s : State) : Result := runInstr (immediate discard) s

/-- `C2` NOP #imm (R292, R123). -/
def execNopImmC2 (s : State) : Result := runInstr (immediate discard) s

/-- `D4` NOP zp,X (R292, R125). -/
def execNopZpxD4 (s : State) : Result := runInstr (zeroPageIndexedRead indexX discard) s

/-- `DA` NOP (R292, R122). -/
def execNopImpDA (s : State) : Result := runInstr (implied id) s

/-- `DC` NOP abs,X (R292, R127). -/
def execNopAbxDC (s : State) : Result := runInstr (absoluteIndexedRead indexX discard) s

/-- `E2` NOP #imm (R292, R123). -/
def execNopImmE2 (s : State) : Result := runInstr (immediate discard) s

/-- `F4` NOP zp,X (R292, R125). -/
def execNopZpxF4 (s : State) : Result := runInstr (zeroPageIndexedRead indexX discard) s

/-- `FA` NOP (R292, R122). -/
def execNopImpFA (s : State) : Result := runInstr (implied id) s

/-- `FC` NOP abs,X (R292, R127). -/
def execNopAbxFC (s : State) : Result := runInstr (absoluteIndexedRead indexX discard) s

/-! ### JAM -/

/-- `02` JAM (R293). -/
def execJam02 (s : State) : Result := jam s

/-- `12` JAM (R293). -/
def execJam12 (s : State) : Result := jam s

/-- `22` JAM (R293). -/
def execJam22 (s : State) : Result := jam s

/-- `32` JAM (R293). -/
def execJam32 (s : State) : Result := jam s

/-- `42` JAM (R293). -/
def execJam42 (s : State) : Result := jam s

/-- `52` JAM (R293). -/
def execJam52 (s : State) : Result := jam s

/-- `62` JAM (R293). -/
def execJam62 (s : State) : Result := jam s

/-- `72` JAM (R293). -/
def execJam72 (s : State) : Result := jam s

/-- `92` JAM (R293). -/
def execJam92 (s : State) : Result := jam s

/-- `B2` JAM (R293). -/
def execJamB2 (s : State) : Result := jam s

/-- `D2` JAM (R293). -/
def execJamD2 (s : State) : Result := jam s

/-- `F2` JAM (R293). -/
def execJamF2 (s : State) : Result := jam s

end Sys2Proof.Machine
end

