-- ==== Sys2Proof/Machine/Shift.lean ====
section
/-! DEFINITION. Increments, decrements, shifts and rotates (R203 to R212). One definition per instruction, from its second transaction on. -/

namespace Sys2Proof.Machine

/-- INC's `rmw_op` (R203). -/
def incOp : RmwOp where
  modify := fun m s => (m + 1, { s with p := s.p.setNZ (m + 1) })

/-- DEC's `rmw_op` (R204). -/
def decOp : RmwOp where
  modify := fun m s => (m - 1, { s with p := s.p.setNZ (m - 1) })

/-- INX (R205). -/
def inxOp (s : State) : State := { s with x := s.x + 1, p := s.p.setNZ (s.x + 1) }

/-- INY (R206). -/
def inyOp (s : State) : State := { s with y := s.y + 1, p := s.p.setNZ (s.y + 1) }

/-- DEX (R207). -/
def dexOp (s : State) : State := { s with x := s.x - 1, p := s.p.setNZ (s.x - 1) }

/-- DEY (R208). -/
def deyOp (s : State) : State := { s with y := s.y - 1, p := s.p.setNZ (s.y - 1) }

/-- ASL's `rmw_op` (R209). -/
def aslOp : RmwOp where
  modify := modifyBy aslOut

/-- LSR's `rmw_op` (R210). -/
def lsrOp : RmwOp where
  modify := modifyBy lsrOut

/-- ROL's `rmw_op` (R211). -/
def rolOp : RmwOp where
  modify := modifyBy rolOut

/-- ROR's `rmw_op` (R212). -/
def rorOp : RmwOp where
  modify := modifyBy rorOut

/-! ### INC -/

/-- `E6` INC zp (R203, R124). -/
def execIncZp (s : State) : Result := runInstr (zeroPageModify incOp) s

/-- `EE` INC abs (R203, R126). -/
def execIncAbs (s : State) : Result := runInstr (absoluteModify incOp) s

/-- `F6` INC zp,X (R203, R125). -/
def execIncZpx (s : State) : Result := runInstr (zeroPageIndexedModify indexX incOp) s

/-- `FE` INC abs,X (R203, R129). -/
def execIncAbx (s : State) : Result := runInstr (absoluteIndexedModify indexX incOp) s

/-! ### DEC -/

/-- `C6` DEC zp (R204, R124). -/
def execDecZp (s : State) : Result := runInstr (zeroPageModify decOp) s

/-- `CE` DEC abs (R204, R126). -/
def execDecAbs (s : State) : Result := runInstr (absoluteModify decOp) s

/-- `D6` DEC zp,X (R204, R125). -/
def execDecZpx (s : State) : Result := runInstr (zeroPageIndexedModify indexX decOp) s

/-- `DE` DEC abs,X (R204, R129). -/
def execDecAbx (s : State) : Result := runInstr (absoluteIndexedModify indexX decOp) s

/-! ### INX -/

/-- `E8` INX (R205, R122). -/
def execInx (s : State) : Result := runInstr (implied inxOp) s

/-! ### INY -/

/-- `C8` INY (R206, R122). -/
def execIny (s : State) : Result := runInstr (implied inyOp) s

/-! ### DEX -/

/-- `CA` DEX (R207, R122). -/
def execDex (s : State) : Result := runInstr (implied dexOp) s

/-! ### DEY -/

/-- `88` DEY (R208, R122). -/
def execDey (s : State) : Result := runInstr (implied deyOp) s

/-! ### ASL -/

/-- `06` ASL zp (R209, R124). -/
def execAslZp (s : State) : Result := runInstr (zeroPageModify aslOp) s

/-- `0A` ASL A (R209, R122). -/
def execAslAcc (s : State) : Result := runInstr (accumulator aslOut) s

/-- `0E` ASL abs (R209, R126). -/
def execAslAbs (s : State) : Result := runInstr (absoluteModify aslOp) s

/-- `16` ASL zp,X (R209, R125). -/
def execAslZpx (s : State) : Result := runInstr (zeroPageIndexedModify indexX aslOp) s

/-- `1E` ASL abs,X (R209, R129). -/
def execAslAbx (s : State) : Result := runInstr (absoluteIndexedModify indexX aslOp) s

/-! ### LSR -/

/-- `46` LSR zp (R210, R124). -/
def execLsrZp (s : State) : Result := runInstr (zeroPageModify lsrOp) s

/-- `4A` LSR A (R210, R122). -/
def execLsrAcc (s : State) : Result := runInstr (accumulator lsrOut) s

/-- `4E` LSR abs (R210, R126). -/
def execLsrAbs (s : State) : Result := runInstr (absoluteModify lsrOp) s

/-- `56` LSR zp,X (R210, R125). -/
def execLsrZpx (s : State) : Result := runInstr (zeroPageIndexedModify indexX lsrOp) s

/-- `5E` LSR abs,X (R210, R129). -/
def execLsrAbx (s : State) : Result := runInstr (absoluteIndexedModify indexX lsrOp) s

/-! ### ROL -/

/-- `26` ROL zp (R211, R124). -/
def execRolZp (s : State) : Result := runInstr (zeroPageModify rolOp) s

/-- `2A` ROL A (R211, R122). -/
def execRolAcc (s : State) : Result := runInstr (accumulator rolOut) s

/-- `2E` ROL abs (R211, R126). -/
def execRolAbs (s : State) : Result := runInstr (absoluteModify rolOp) s

/-- `36` ROL zp,X (R211, R125). -/
def execRolZpx (s : State) : Result := runInstr (zeroPageIndexedModify indexX rolOp) s

/-- `3E` ROL abs,X (R211, R129). -/
def execRolAbx (s : State) : Result := runInstr (absoluteIndexedModify indexX rolOp) s

/-! ### ROR -/

/-- `66` ROR zp (R212, R124). -/
def execRorZp (s : State) : Result := runInstr (zeroPageModify rorOp) s

/-- `6A` ROR A (R212, R122). -/
def execRorAcc (s : State) : Result := runInstr (accumulator rorOut) s

/-- `6E` ROR abs (R212, R126). -/
def execRorAbs (s : State) : Result := runInstr (absoluteModify rorOp) s

/-- `76` ROR zp,X (R212, R125). -/
def execRorZpx (s : State) : Result := runInstr (zeroPageIndexedModify indexX rorOp) s

/-- `7E` ROR abs,X (R212, R129). -/
def execRorAbx (s : State) : Result := runInstr (absoluteIndexedModify indexX rorOp) s

end Sys2Proof.Machine
end

