-- ==== Sys2Proof/Machine/Stack.lean ====
section
/-! DEFINITION. Stack instructions, flag instructions and the documented NOP (R246 to R257). One definition per instruction, from its second transaction on. -/

namespace Sys2Proof.Machine

/-- T2 and T3 of PHA (R246). -/
def phaLines : List Micro := [dummyPc, pushByte State.a]

/-- T2 and T3 of PHP, through the user-push view (R247). -/
def phpLines : List Micro := [dummyPc, pushByte fun s => s.p.push]

/-- T2 to T4 of PLA (R248). -/
def plaLines : List Micro :=
  [dummyPc, dummyStackInc, pullLast fun d s => { s with a := d, p := s.p.setNZ d }]

/-- T2 to T4 of PLP (R249): the flags are loaded after the last transaction. -/
def plpLines : List Micro :=
  [dummyPc, dummyStackInc, pullLast fun d s => { s with p := Flags.load d }]

/-- CLC (R250). -/
def clcOp (s : State) : State := { s with p := { s.p with c := false } }

/-- SEC (R251). -/
def secOp (s : State) : State := { s with p := { s.p with c := true } }

/-- CLI (R252). -/
def cliOp (s : State) : State := { s with p := { s.p with i := false } }

/-- SEI (R253). -/
def seiOp (s : State) : State := { s with p := { s.p with i := true } }

/-- CLV (R254). -/
def clvOp (s : State) : State := { s with p := { s.p with v := false } }

/-- CLD (R255). -/
def cldOp (s : State) : State := { s with p := { s.p with d := false } }

/-- SED (R256). -/
def sedOp (s : State) : State := { s with p := { s.p with d := true } }

/-! ### PHA -/

/-- `48` PHA (R246). -/
def execPha (s : State) : Result := runInstr phaLines s

/-! ### PHP -/

/-- `08` PHP (R247). -/
def execPhp (s : State) : Result := runInstr phpLines s

/-! ### PLA -/

/-- `68` PLA (R248). -/
def execPla (s : State) : Result := runInstr plaLines s

/-! ### PLP -/

/-- `28` PLP (R249). -/
def execPlp (s : State) : Result := runInstr plpLines s

/-! ### CLC -/

/-- `18` CLC (R250, R122). -/
def execClc (s : State) : Result := runInstr (implied clcOp) s

/-! ### SEC -/

/-- `38` SEC (R251, R122). -/
def execSec (s : State) : Result := runInstr (implied secOp) s

/-! ### CLI -/

/-- `58` CLI (R252, R122). -/
def execCli (s : State) : Result := runInstr (implied cliOp) s

/-! ### SEI -/

/-- `78` SEI (R253, R122). -/
def execSei (s : State) : Result := runInstr (implied seiOp) s

/-! ### CLV -/

/-- `B8` CLV (R254, R122). -/
def execClv (s : State) : Result := runInstr (implied clvOp) s

/-! ### CLD -/

/-- `D8` CLD (R255, R122). -/
def execCld (s : State) : Result := runInstr (implied cldOp) s

/-! ### SED -/

/-- `F8` SED (R256, R122). -/
def execSed (s : State) : Result := runInstr (implied sedOp) s

/-! ### NOP -/

/-- `EA` NOP (R257). -/
def execNop (s : State) : Result := runInstr (implied id) s

end Sys2Proof.Machine
end

