-- ==== Sys2Proof/Machine/Undocumented.lean ====
section
/-! DEFINITION. The undocumented combined operations, the SH group and LAS (R270 to R291). One definition per instruction, from its second transaction on. -/

namespace Sys2Proof.Machine

/-- SLO (R271): shift left, then OR into A. -/
def sloOp : RmwOp where
  modify := modifyBy aslOut
  after := oraOp

/-- RLA (R272): rotate left, then AND into A. -/
def rlaOp : RmwOp where
  modify := modifyBy rolOut
  after := andOp

/-- SRE (R273): shift right, then EOR into A. -/
def sreOp : RmwOp where
  modify := modifyBy lsrOut
  after := eorOp

/-- RRA (R274): rotate right, then ADC with the carry that the rotate produced. -/
def rraOp : RmwOp where
  modify := modifyBy rorOut
  after := adcOp

/-- The value of SAX (R275), also the register source of SHA (R287). -/
def storeAX : StoreValue := fun s => s.a &&& s.x

/-- LAX (R276). -/
def laxOp : ReadOp := fun v s => { s with a := v, x := v, p := s.p.setNZ v }

/-- DCP (R277): decrement, then compare A with the result. -/
def dcpOp : RmwOp where
  modify := fun m s => (m - 1, s)
  after := cmpOp

/-- ISC (R278): increment, then SBC. -/
def iscOp : RmwOp where
  modify := fun m s => (m + 1, s)
  after := sbcOp

/-- ANC (R279). -/
def ancOp : ReadOp := fun m s =>
  let r := s.a &&& m
  { s with a := r, p := { s.p.setNZ r with c := bit7 r } }

/-- ALR (R280). -/
def alrOp : ReadOp := fun m s =>
  let o := lsrOut s.p (s.a &&& m)
  { s with a := o.1, p := o.2 }

/-- ARR (R281). -/
def arrOp : ReadOp := fun m s =>
  let o := arrOut s.p (s.a &&& m)
  { s with a := o.1, p := o.2 }

/-- ANE's result (R282). -/
def aneOut (magic a x m : Byte) : Byte := (a ||| magic) &&& x &&& m

/-- ANE (R282), with the open constant `ANE_MAGIC`. Log 3. -/
def aneOp : ReadOp := fun m s =>
  let r := aneOut Config.aneMagic s.a s.x m
  { s with a := r, p := s.p.setNZ r }

/-- LXA's result (R283). -/
def lxaOut (magic a m : Byte) : Byte := (a ||| magic) &&& m

/-- LXA (R283), with the open constant `LXA_MAGIC`. Log 3. -/
def lxaOp : ReadOp := fun m s =>
  let t := lxaOut Config.lxaMagic s.a m
  { s with a := t, x := t, p := s.p.setNZ t }

/-- SBX (R284): flags as a compare of A & X with the operand. -/
def sbxOp : ReadOp := fun m s =>
  let u := s.a &&& s.x
  { s with x := u - m, p := s.p.cmp u m }

/-- What TAS does after T3 (R290). -/
def tasOp (s : State) : State := { s with s := s.a &&& s.x }

/-- LAS (R291). -/
def lasOp : ReadOp := fun m s =>
  let t := m &&& s.s
  { s with a := t, x := t, s := t, p := s.p.setNZ t }

/-! ### SLO -/

/-- `03` SLO (zp,X) (R271, R130). -/
def execSloIzx (s : State) : Result := runInstr (indexedIndirectModify sloOp) s

/-- `07` SLO zp (R271, R124). -/
def execSloZp (s : State) : Result := runInstr (zeroPageModify sloOp) s

/-- `0F` SLO abs (R271, R126). -/
def execSloAbs (s : State) : Result := runInstr (absoluteModify sloOp) s

/-- `13` SLO (zp),Y (R271, R133). -/
def execSloIzy (s : State) : Result := runInstr (indirectIndexedModify sloOp) s

/-- `17` SLO zp,X (R271, R125). -/
def execSloZpx (s : State) : Result := runInstr (zeroPageIndexedModify indexX sloOp) s

/-- `1B` SLO abs,Y (R271, R129). -/
def execSloAby (s : State) : Result := runInstr (absoluteIndexedModify indexY sloOp) s

/-- `1F` SLO abs,X (R271, R129). -/
def execSloAbx (s : State) : Result := runInstr (absoluteIndexedModify indexX sloOp) s

/-! ### RLA -/

/-- `23` RLA (zp,X) (R272, R130). -/
def execRlaIzx (s : State) : Result := runInstr (indexedIndirectModify rlaOp) s

/-- `27` RLA zp (R272, R124). -/
def execRlaZp (s : State) : Result := runInstr (zeroPageModify rlaOp) s

/-- `2F` RLA abs (R272, R126). -/
def execRlaAbs (s : State) : Result := runInstr (absoluteModify rlaOp) s

/-- `33` RLA (zp),Y (R272, R133). -/
def execRlaIzy (s : State) : Result := runInstr (indirectIndexedModify rlaOp) s

/-- `37` RLA zp,X (R272, R125). -/
def execRlaZpx (s : State) : Result := runInstr (zeroPageIndexedModify indexX rlaOp) s

/-- `3B` RLA abs,Y (R272, R129). -/
def execRlaAby (s : State) : Result := runInstr (absoluteIndexedModify indexY rlaOp) s

/-- `3F` RLA abs,X (R272, R129). -/
def execRlaAbx (s : State) : Result := runInstr (absoluteIndexedModify indexX rlaOp) s

/-! ### SRE -/

/-- `43` SRE (zp,X) (R273, R130). -/
def execSreIzx (s : State) : Result := runInstr (indexedIndirectModify sreOp) s

/-- `47` SRE zp (R273, R124). -/
def execSreZp (s : State) : Result := runInstr (zeroPageModify sreOp) s

/-- `4F` SRE abs (R273, R126). -/
def execSreAbs (s : State) : Result := runInstr (absoluteModify sreOp) s

/-- `53` SRE (zp),Y (R273, R133). -/
def execSreIzy (s : State) : Result := runInstr (indirectIndexedModify sreOp) s

/-- `57` SRE zp,X (R273, R125). -/
def execSreZpx (s : State) : Result := runInstr (zeroPageIndexedModify indexX sreOp) s

/-- `5B` SRE abs,Y (R273, R129). -/
def execSreAby (s : State) : Result := runInstr (absoluteIndexedModify indexY sreOp) s

/-- `5F` SRE abs,X (R273, R129). -/
def execSreAbx (s : State) : Result := runInstr (absoluteIndexedModify indexX sreOp) s

/-! ### RRA -/

/-- `63` RRA (zp,X) (R274, R130). -/
def execRraIzx (s : State) : Result := runInstr (indexedIndirectModify rraOp) s

/-- `67` RRA zp (R274, R124). -/
def execRraZp (s : State) : Result := runInstr (zeroPageModify rraOp) s

/-- `6F` RRA abs (R274, R126). -/
def execRraAbs (s : State) : Result := runInstr (absoluteModify rraOp) s

/-- `73` RRA (zp),Y (R274, R133). -/
def execRraIzy (s : State) : Result := runInstr (indirectIndexedModify rraOp) s

/-- `77` RRA zp,X (R274, R125). -/
def execRraZpx (s : State) : Result := runInstr (zeroPageIndexedModify indexX rraOp) s

/-- `7B` RRA abs,Y (R274, R129). -/
def execRraAby (s : State) : Result := runInstr (absoluteIndexedModify indexY rraOp) s

/-- `7F` RRA abs,X (R274, R129). -/
def execRraAbx (s : State) : Result := runInstr (absoluteIndexedModify indexX rraOp) s

/-! ### SAX -/

/-- `83` SAX (zp,X) (R275, R130). -/
def execSaxIzx (s : State) : Result := runInstr (indexedIndirectWrite storeAX) s

/-- `87` SAX zp (R275, R124). -/
def execSaxZp (s : State) : Result := runInstr (zeroPageWrite storeAX) s

/-- `8F` SAX abs (R275, R126). -/
def execSaxAbs (s : State) : Result := runInstr (absoluteWrite storeAX) s

/-- `97` SAX zp,Y (R275, R125). -/
def execSaxZpy (s : State) : Result := runInstr (zeroPageIndexedWrite indexY storeAX) s

/-! ### LAX -/

/-- `A3` LAX (zp,X) (R276, R130). -/
def execLaxIzx (s : State) : Result := runInstr (indexedIndirectRead laxOp) s

/-- `A7` LAX zp (R276, R124). -/
def execLaxZp (s : State) : Result := runInstr (zeroPageRead laxOp) s

/-- `AF` LAX abs (R276, R126). -/
def execLaxAbs (s : State) : Result := runInstr (absoluteRead laxOp) s

/-- `B3` LAX (zp),Y (R276, R131). -/
def execLaxIzy (s : State) : Result := runInstr (indirectIndexedRead laxOp) s

/-- `B7` LAX zp,Y (R276, R125). -/
def execLaxZpy (s : State) : Result := runInstr (zeroPageIndexedRead indexY laxOp) s

/-- `BF` LAX abs,Y (R276, R127). -/
def execLaxAby (s : State) : Result := runInstr (absoluteIndexedRead indexY laxOp) s

/-! ### DCP -/

/-- `C3` DCP (zp,X) (R277, R130). -/
def execDcpIzx (s : State) : Result := runInstr (indexedIndirectModify dcpOp) s

/-- `C7` DCP zp (R277, R124). -/
def execDcpZp (s : State) : Result := runInstr (zeroPageModify dcpOp) s

/-- `CF` DCP abs (R277, R126). -/
def execDcpAbs (s : State) : Result := runInstr (absoluteModify dcpOp) s

/-- `D3` DCP (zp),Y (R277, R133). -/
def execDcpIzy (s : State) : Result := runInstr (indirectIndexedModify dcpOp) s

/-- `D7` DCP zp,X (R277, R125). -/
def execDcpZpx (s : State) : Result := runInstr (zeroPageIndexedModify indexX dcpOp) s

/-- `DB` DCP abs,Y (R277, R129). -/
def execDcpAby (s : State) : Result := runInstr (absoluteIndexedModify indexY dcpOp) s

/-- `DF` DCP abs,X (R277, R129). -/
def execDcpAbx (s : State) : Result := runInstr (absoluteIndexedModify indexX dcpOp) s

/-! ### ISC -/

/-- `E3` ISC (zp,X) (R278, R130). -/
def execIscIzx (s : State) : Result := runInstr (indexedIndirectModify iscOp) s

/-- `E7` ISC zp (R278, R124). -/
def execIscZp (s : State) : Result := runInstr (zeroPageModify iscOp) s

/-- `EF` ISC abs (R278, R126). -/
def execIscAbs (s : State) : Result := runInstr (absoluteModify iscOp) s

/-- `F3` ISC (zp),Y (R278, R133). -/
def execIscIzy (s : State) : Result := runInstr (indirectIndexedModify iscOp) s

/-- `F7` ISC zp,X (R278, R125). -/
def execIscZpx (s : State) : Result := runInstr (zeroPageIndexedModify indexX iscOp) s

/-- `FB` ISC abs,Y (R278, R129). -/
def execIscAby (s : State) : Result := runInstr (absoluteIndexedModify indexY iscOp) s

/-- `FF` ISC abs,X (R278, R129). -/
def execIscAbx (s : State) : Result := runInstr (absoluteIndexedModify indexX iscOp) s

/-! ### ANC -/

/-- `0B` ANC #imm (R279, R123). -/
def execAncImm0B (s : State) : Result := runInstr (immediate ancOp) s

/-- `2B` ANC #imm (R279, R123). -/
def execAncImm2B (s : State) : Result := runInstr (immediate ancOp) s

/-! ### ALR -/

/-- `4B` ALR #imm (R280, R123). -/
def execAlr (s : State) : Result := runInstr (immediate alrOp) s

/-! ### ARR -/

/-- `6B` ARR #imm (R281, R123). -/
def execArr (s : State) : Result := runInstr (immediate arrOp) s

/-! ### ANE -/

/-- `8B` ANE #imm (R282, R123). -/
def execAne (s : State) : Result := runInstr (immediate aneOp) s

/-! ### LXA -/

/-- `AB` LXA #imm (R283, R123). -/
def execLxa (s : State) : Result := runInstr (immediate lxaOp) s

/-! ### SBX -/

/-- `CB` SBX #imm (R284, R123). -/
def execSbx (s : State) : Result := runInstr (immediate sbxOp) s

/-! ### USBC -/

/-- `EB` USBC #imm (R285, R123). -/
def execUsbc (s : State) : Result := runInstr (immediate sbcOp) s

/-! ### SHA -/

/-- `93` SHA (zp),Y (R287, R132, R286). -/
def execShaIzy (s : State) : Result := runInstr (indirectIndexedHighAnd storeAX) s

/-- `9F` SHA abs,Y (R287, R128, R286). -/
def execShaAby (s : State) : Result := runInstr (absoluteIndexedHighAnd indexY storeAX) s

/-! ### SHX -/

/-- `9E` SHX abs,Y (R288, R128, R286). -/
def execShx (s : State) : Result := runInstr (absoluteIndexedHighAnd indexY State.x) s

/-! ### SHY -/

/-- `9C` SHY abs,X (R289, R128, R286). -/
def execShy (s : State) : Result := runInstr (absoluteIndexedHighAnd indexX State.y) s

/-! ### TAS -/

/-- `9B` TAS abs,Y (R290, R128, R286). -/
def execTas (s : State) : Result := runInstr (absoluteIndexedHighAnd indexY State.s tasOp) s

/-! ### LAS -/

/-- `BB` LAS abs,Y (R291, R127). -/
def execLas (s : State) : Result := runInstr (absoluteIndexedRead indexY lasOp) s

end Sys2Proof.Machine
end

