-- ==== Sys2Proof/Machine/Driver.lean ====
section
/-! DEFINITION. The driver's calls (R340 to R346, R360 to R365) and the slices of the other contexts (R347). -/

namespace Sys2Proof.Machine

/-! ### Resume (R342) -/

/-- What `Resume` decides from a context's scheduler and execution state. -/
inductive ResumeDecision
  | report (status : Status)
  | start
  | refused (m : Misuse)
  deriving DecidableEq, Repr

/-- The decision of `Resume` (R342): an aborted context is refused (R334), a jammed or faulted one reports at once, one
without budget reports Exhausted and performs no transaction. -/
def resumeDecision (q : Sched) (run : Run) : ResumeDecision :=
  match q.ctx with
  | .aborted => .refused .resumeAborted
  | .active => .refused .whileActive
  | .idle | .suspended =>
    match run with
    | .jammed => .report .jammed
    | .faulted e => .report (.faulted e)
    | .running => if q.budget ≤ 0 then .report .exhausted else .start

/-- The execution state of the context with handle `h`. -/
def runOf (h : Nat) (s : State) : Option Run :=
  match h with
  | 0 => some s.run
  | k + 1 => (s.others[k]?).map OtherContext.run

/-- A context becomes `Active`, and the arbiter holds it (R35, R342). -/
def activate (h : Nat) (s : State) : State :=
  updateSched h (fun q => { q with ctx := .active }) { s with active := some h }

/-- A context stops executing and reports (R332, R342). -/
def deactivate (h : Nat) (status : Status) (s : State) : State :=
  let s' := updateSched h (fun q => { q with ctx := .suspended }) s
  { s' with
    active := none
    report := some ⟨h, status, ((schedOf h s').map Sched.budget).getD 0⟩ }

/-- `Resume(core)` (R342), up to the start of the slice; the slice itself is the steps that follow. Log 12. -/
def resume (h : Nat) (s : State) : Result :=
  match schedOf h s, runOf h s with
  | some q, some run =>
    match resumeDecision q run with
    | .refused m => .refused (.outOfContract m)
    | .report status => .next { s with report := some ⟨h, status, q.budget⟩ }
    | .start => .next (activate h s)
  | _, _ => .refused (.outOfContract .unknownContext)

/-! ### Resets and Abort -/

/-- `HardReset` of the core (R361): every field of the context at its reset value, the input lines among them, which
the other contexts see too (R351, log 32); the rest of the machine is not touched, the history included (log 26). -/
def hardResetCore (s : State) : State :=
  { State.reset with
    active := s.active
    others := s.others
    mem := s.mem
    devices := s.devices
    history := s.history
    report := s.report
    driver := s.driver }

/-- `SoftReset` of the core (R363, D24): the sampler state is unchanged, `suspend` included, against the table of R36
(log 8). The latches belong to the position (log 13). -/
def softResetCore (s : State) : State :=
  { s with
    p := { s.p with i := true }
    resetReq := .reset
    run := .running
    position := .boundary
    latch := Latches.clear
    sched := { s.sched with ctx := .idle } }

/-- `Abort` of the core (R345): the retained position is discarded. -/
def abortCore (s : State) : State :=
  { s with
    position := .boundary
    latch := Latches.clear
    sched := { s.sched with ctx := .aborted } }

/-- `HardReset` of the other context number `k` (R347, R361): a reset sequence is due (log 11). The input lines that the
contexts share stay as they are, by the model's choice: R361 names one context's lines, R351 shares them (log 32). -/
def hardResetOther (k : Nat) (_ : OtherContext) : OtherContext where
  sched := ⟨0, 0, 0, .idle⟩
  run := .running
  resetReq := .reset
  position := 0
  registers := Config.otherHardReset k

/-- `SoftReset` of the other context number `k` (R347, R363): a reset sequence is due, and its position returns to a
boundary. Log 11. -/
def softResetOther (k : Nat) (o : OtherContext) : OtherContext :=
  { o with
    sched := { o.sched with ctx := .idle }
    run := .running
    resetReq := .reset
    position := 0
    registers := Config.otherSoftReset k o.registers }

/-- `Abort` of another context (R345, R347): its retained position is discarded. -/
def abortOther (_ : Nat) (o : OtherContext) : OtherContext :=
  { o with position := 0, sched := { o.sched with ctx := .aborted } }

/-- Apply `f` to the core or `g` to another context, when `ok` admits its life state (R346); otherwise refuse. -/
def lifeCall (h : Nat) (ok : CtxState → Option Misuse) (f : State → State) (g : Nat → OtherContext → OtherContext)
    (s : State) : Result :=
  match schedOf h s with
  | none => .refused (.outOfContract .unknownContext)
  | some q =>
    match ok q.ctx with
    | some m => .refused (.outOfContract m)
    | none =>
      match h with
      | 0 => .next (f s)
      | k + 1 => .next (updateOther k (g k) s)

/-- `HardReset` is admitted unless the context is active (R346, R364). -/
def hardResetOk : CtxState → Option Misuse
  | .active => some .whileActive
  | .idle | .suspended | .aborted => none

/-- `SoftReset` is admitted on an idle or suspended context (R346, R364). -/
def softResetOk : CtxState → Option Misuse
  | .active => some .whileActive
  | .aborted => some .softResetAborted
  | .idle | .suspended => none

/-- `Abort` is admitted on an idle or suspended context (R345). -/
def abortOk : CtxState → Option Misuse
  | .active => some .whileActive
  | .aborted => some .abortAborted
  | .idle | .suspended => none

/-- A call that is out of contract while any context is active (R334, R364). -/
def whenNoneActive (r : Result) (s : State) : Result :=
  match s.active with
  | none => r
  | some _ => .refused (.outOfContract .whileActive)

/-- One call of the driver (R8, R348). Resume, the resets and Abort are refused while any context is active (R334, R364). -/
def driverCall (c : Call) (s : State) : Result :=
  match c with
  | .assertLine _ _ | .stall _ _ | .grantCycles _ _ =>
    match callDuring c s with
    | .ok s' => .next s'
    | .error m => .refused (.outOfContract m)
  | .resume h => whenNoneActive (resume h s) s
  | .hardReset h => whenNoneActive (lifeCall h hardResetOk hardResetCore hardResetOther s) s
  | .softReset h => whenNoneActive (lifeCall h softResetOk softResetCore softResetOther s) s
  | .abort h => whenNoneActive (lifeCall h abortOk abortCore abortOther s) s

/-- The driver makes its next call; without one nothing happens (R342: a context does nothing until it is resumed).
Log 5. -/
def driverStep (s : State) : Result :=
  match s.driver with
  | [] => .next s
  | c :: rest => driverCall c { s with driver := rest }

/-! ### Slices of the other contexts (R347) -/

/-- What the other context `o` goes by. -/
def viewOf (o : OtherContext) (s : State) : OtherView where
  resetDue := o.resetReq == .reset
  position := o.position
  registers := o.registers
  nmiLine := s.nmiLine
  irqLines := s.irqLines

/-- The start of a transaction of another context: at a boundary a due reset sequence starts, and the request is taken
(R318, R360, R362). -/
def beginOther (o : OtherContext) : OtherContext :=
  if o.position = 0 then { o with resetReq := .none } else o

/-- The end of a transaction of another context (R33, R347). -/
def advanceOther (next : OtherNext) (o : OtherContext) : OtherContext :=
  { o with registers := next.registers, position := if next.boundary then 0 else o.position + 1 }

/-- The end of the forward progress of another context (R293, R347). -/
def jamOther (o : OtherContext) : OtherContext := { o with run := .jammed, position := 0 }

/-- Step d of R61 for the other context number `k`: it yields when its budget is used up (R342). -/
def yieldOther (k : Nat) (s : State) : State :=
  match schedOf (k + 1) s with
  | some q => if q.budget ≤ 0 then deactivate (k + 1) .exhausted s else s
  | none => s

/-- One transaction of the other context number `k`, which went by `view`, with steps a to e of R61. -/
def otherTransaction (k : Nat) (view : OtherView) (t : Txn) (s : State) : Result :=
  match busCycle (k + 1) t (updateOther k beginOther s) with
  | .refused m => .refused (.outOfContract m)
  | .failed e s' =>
    .next (deactivate (k + 1) (.faulted e) (updateOther k (fun o => { o with run := .faulted e }) s'))
  | .answered d s' =>
    .next (yieldOther k (updateOther k (advanceOther (Config.otherCoreAfter k view s'.history d)) s'))

/-- One action of the other context number `k` while it is active: what OTHER_CORE_STEP says, when it is running (R318).
Log 11. -/
def otherStep (k : Nat) (s : State) : Result :=
  match s.others[k]? with
  | none => .refused (.outOfContract .unknownContext)
  | some o =>
    match o.run with
    | .jammed => .next (deactivate (k + 1) .jammed s)
    | .faulted e => .next (deactivate (k + 1) (.faulted e) s)
    | .running =>
      match Config.otherCoreStep k (viewOf o s) s.history with
      | .jam => .next (deactivate (k + 1) .jammed (updateOther k jamOther s))
      | .txn t => otherTransaction k (viewOf o s) t s

end Sys2Proof.Machine
end

