-- ==== Sys2Proof/Machine/Step.lean ====
section
/-! DEFINITION. One step of the machine, and the state in which a given instruction is the next to run. -/

namespace Sys2Proof.Machine

/-- Decode the latched opcode and run its instruction (R99). -/
def decodeAndExec (s : State) : Result := exec (decodeOpcode s.ir) s

/-- One action of the core while it is active: it goes on from its retained position, or does what R318 says at a
boundary. An action is a whole reset sequence, interrupt entry or instruction, unless the context stops within it.
Log 12. -/
def coreStep (s : State) : Result :=
  match s.position with
  | .inTxn .reset _ _ => resumeReset s
  | .inTxn .entry _ _ => resumeEntry s
  | .inTxn .instr 0 d => decodeAndExec (latchOpcode d s)
  | .inTxn .instr (_ + 1) _ => decodeAndExec s
  | .boundary =>
    match boundaryAction s with
    | .report status => .next (stop status s)
    | .reset => beginReset s
    | .entry => beginEntry s
    | .fetch =>
      match fetchOpcode s with
      | .done d s' => decodeAndExec (latchOpcode d s')
      | .stopped s' => .next s'
      | .refused m => .refused (.outOfContract m)

/-- One step: the active context acts; when none is active the driver makes its next call (R340, R342). Log 12. -/
def step (s : State) : Host.Outcome State Fault Refusal :=
  match s.active with
  | some 0 => coreStep s
  | some (k + 1) => otherStep k s
  | none => driverStep s

/-- Store bytes at rising addresses. -/
def pokeBytes (a : Word) : List Byte → State → State
  | [], s => s
  | b :: rest, s => pokeBytes (a + 1) rest (poke s a b)

/-- Whether a window covers one of the addresses `a`, `a + 1`, `a + 2`. -/
def coversFetch (a : Word) (w : Window) : Bool :=
  [a, a + 1, a + 2].any fun x => decide (w.first ≤ x) && decide (x ≤ w.last)

/-- The state `s` with an instruction stored where the next step fetches: its bytes at PC in plain memory, no reset or
interrupt due, and the context active with budget enough for one instruction. Log 6. -/
def State.withFetchWord (s : State) (nbits w : Nat) : State :=
  pokeBytes s.pc (wordBytes (w % 2 ^ nbits))
    { s with
      run := .running
      resetReq := .none
      position := .boundary
      intPending := false
      active := some 0
      sched := { s.sched with budget := 16 + s.sched.stallPending, ctx := .active }
      devices := s.devices.filter fun w => !coversFetch s.pc w }

end Sys2Proof.Machine
end

