-- ==== Sys2Proof/Laws/PerInstr.lean ====
section
/-! SUPPORT. The per-instruction family RoundTrip: an instruction stored with any operand bytes decodes to itself. -/

namespace Sys2Proof.Laws

/-- Decoding the bytes of a stored instruction gives it back, whatever its operand bytes and whatever follows. -/
def RoundTrip.Statement (i : Instr) : Prop :=
  ∀ (operands rest : List Byte), operands.length = i.operandBytes →
    decode (encode ⟨i, operands⟩ ++ rest) = .ok (⟨i, operands⟩, rest)

/-- A stored instruction decodes to itself as soon as its opcode does. -/
theorem roundTrip_of_opcode {i : Instr} (h : decodeOpcode (encodeOpcode i) = i) : RoundTrip.Statement i := by
  intro operands rest hlen
  have hle : i.operandBytes ≤ (operands ++ rest).length := by
    rw [List.length_append, hlen]; exact Nat.le_add_right _ _
  simp only [encode, List.cons_append, decode, h, if_pos hle]
  rw [← hlen, List.take_left, List.drop_left]

theorem RoundTrip.brk : RoundTrip.Statement .brk := roundTrip_of_opcode rfl
theorem RoundTrip.oraIzx : RoundTrip.Statement .oraIzx := roundTrip_of_opcode rfl
theorem RoundTrip.jam02 : RoundTrip.Statement .jam02 := roundTrip_of_opcode rfl
theorem RoundTrip.sloIzx : RoundTrip.Statement .sloIzx := roundTrip_of_opcode rfl
theorem RoundTrip.nopZp04 : RoundTrip.Statement .nopZp04 := roundTrip_of_opcode rfl
theorem RoundTrip.oraZp : RoundTrip.Statement .oraZp := roundTrip_of_opcode rfl
theorem RoundTrip.aslZp : RoundTrip.Statement .aslZp := roundTrip_of_opcode rfl
theorem RoundTrip.sloZp : RoundTrip.Statement .sloZp := roundTrip_of_opcode rfl
theorem RoundTrip.php : RoundTrip.Statement .php := roundTrip_of_opcode rfl
theorem RoundTrip.oraImm : RoundTrip.Statement .oraImm := roundTrip_of_opcode rfl
theorem RoundTrip.aslAcc : RoundTrip.Statement .aslAcc := roundTrip_of_opcode rfl
theorem RoundTrip.ancImm0B : RoundTrip.Statement .ancImm0B := roundTrip_of_opcode rfl
theorem RoundTrip.nopAbs0C : RoundTrip.Statement .nopAbs0C := roundTrip_of_opcode rfl
theorem RoundTrip.oraAbs : RoundTrip.Statement .oraAbs := roundTrip_of_opcode rfl
theorem RoundTrip.aslAbs : RoundTrip.Statement .aslAbs := roundTrip_of_opcode rfl
theorem RoundTrip.sloAbs : RoundTrip.Statement .sloAbs := roundTrip_of_opcode rfl
theorem RoundTrip.bpl : RoundTrip.Statement .bpl := roundTrip_of_opcode rfl
theorem RoundTrip.oraIzy : RoundTrip.Statement .oraIzy := roundTrip_of_opcode rfl
theorem RoundTrip.jam12 : RoundTrip.Statement .jam12 := roundTrip_of_opcode rfl
theorem RoundTrip.sloIzy : RoundTrip.Statement .sloIzy := roundTrip_of_opcode rfl
theorem RoundTrip.nopZpx14 : RoundTrip.Statement .nopZpx14 := roundTrip_of_opcode rfl
theorem RoundTrip.oraZpx : RoundTrip.Statement .oraZpx := roundTrip_of_opcode rfl
theorem RoundTrip.aslZpx : RoundTrip.Statement .aslZpx := roundTrip_of_opcode rfl
theorem RoundTrip.sloZpx : RoundTrip.Statement .sloZpx := roundTrip_of_opcode rfl
theorem RoundTrip.clc : RoundTrip.Statement .clc := roundTrip_of_opcode rfl
theorem RoundTrip.oraAby : RoundTrip.Statement .oraAby := roundTrip_of_opcode rfl
theorem RoundTrip.nopImp1A : RoundTrip.Statement .nopImp1A := roundTrip_of_opcode rfl
theorem RoundTrip.sloAby : RoundTrip.Statement .sloAby := roundTrip_of_opcode rfl
theorem RoundTrip.nopAbx1C : RoundTrip.Statement .nopAbx1C := roundTrip_of_opcode rfl
theorem RoundTrip.oraAbx : RoundTrip.Statement .oraAbx := roundTrip_of_opcode rfl
theorem RoundTrip.aslAbx : RoundTrip.Statement .aslAbx := roundTrip_of_opcode rfl
theorem RoundTrip.sloAbx : RoundTrip.Statement .sloAbx := roundTrip_of_opcode rfl
theorem RoundTrip.jsr : RoundTrip.Statement .jsr := roundTrip_of_opcode rfl
theorem RoundTrip.andIzx : RoundTrip.Statement .andIzx := roundTrip_of_opcode rfl
theorem RoundTrip.jam22 : RoundTrip.Statement .jam22 := roundTrip_of_opcode rfl
theorem RoundTrip.rlaIzx : RoundTrip.Statement .rlaIzx := roundTrip_of_opcode rfl
theorem RoundTrip.bitZp : RoundTrip.Statement .bitZp := roundTrip_of_opcode rfl
theorem RoundTrip.andZp : RoundTrip.Statement .andZp := roundTrip_of_opcode rfl
theorem RoundTrip.rolZp : RoundTrip.Statement .rolZp := roundTrip_of_opcode rfl
theorem RoundTrip.rlaZp : RoundTrip.Statement .rlaZp := roundTrip_of_opcode rfl
theorem RoundTrip.plp : RoundTrip.Statement .plp := roundTrip_of_opcode rfl
theorem RoundTrip.andImm : RoundTrip.Statement .andImm := roundTrip_of_opcode rfl
theorem RoundTrip.rolAcc : RoundTrip.Statement .rolAcc := roundTrip_of_opcode rfl
theorem RoundTrip.ancImm2B : RoundTrip.Statement .ancImm2B := roundTrip_of_opcode rfl
theorem RoundTrip.bitAbs : RoundTrip.Statement .bitAbs := roundTrip_of_opcode rfl
theorem RoundTrip.andAbs : RoundTrip.Statement .andAbs := roundTrip_of_opcode rfl
theorem RoundTrip.rolAbs : RoundTrip.Statement .rolAbs := roundTrip_of_opcode rfl
theorem RoundTrip.rlaAbs : RoundTrip.Statement .rlaAbs := roundTrip_of_opcode rfl
theorem RoundTrip.bmi : RoundTrip.Statement .bmi := roundTrip_of_opcode rfl
theorem RoundTrip.andIzy : RoundTrip.Statement .andIzy := roundTrip_of_opcode rfl
theorem RoundTrip.jam32 : RoundTrip.Statement .jam32 := roundTrip_of_opcode rfl
theorem RoundTrip.rlaIzy : RoundTrip.Statement .rlaIzy := roundTrip_of_opcode rfl
theorem RoundTrip.nopZpx34 : RoundTrip.Statement .nopZpx34 := roundTrip_of_opcode rfl
theorem RoundTrip.andZpx : RoundTrip.Statement .andZpx := roundTrip_of_opcode rfl
theorem RoundTrip.rolZpx : RoundTrip.Statement .rolZpx := roundTrip_of_opcode rfl
theorem RoundTrip.rlaZpx : RoundTrip.Statement .rlaZpx := roundTrip_of_opcode rfl
theorem RoundTrip.sec : RoundTrip.Statement .sec := roundTrip_of_opcode rfl
theorem RoundTrip.andAby : RoundTrip.Statement .andAby := roundTrip_of_opcode rfl
theorem RoundTrip.nopImp3A : RoundTrip.Statement .nopImp3A := roundTrip_of_opcode rfl
theorem RoundTrip.rlaAby : RoundTrip.Statement .rlaAby := roundTrip_of_opcode rfl
theorem RoundTrip.nopAbx3C : RoundTrip.Statement .nopAbx3C := roundTrip_of_opcode rfl
theorem RoundTrip.andAbx : RoundTrip.Statement .andAbx := roundTrip_of_opcode rfl
theorem RoundTrip.rolAbx : RoundTrip.Statement .rolAbx := roundTrip_of_opcode rfl
theorem RoundTrip.rlaAbx : RoundTrip.Statement .rlaAbx := roundTrip_of_opcode rfl
theorem RoundTrip.rti : RoundTrip.Statement .rti := roundTrip_of_opcode rfl
theorem RoundTrip.eorIzx : RoundTrip.Statement .eorIzx := roundTrip_of_opcode rfl
theorem RoundTrip.jam42 : RoundTrip.Statement .jam42 := roundTrip_of_opcode rfl
theorem RoundTrip.sreIzx : RoundTrip.Statement .sreIzx := roundTrip_of_opcode rfl
theorem RoundTrip.nopZp44 : RoundTrip.Statement .nopZp44 := roundTrip_of_opcode rfl
theorem RoundTrip.eorZp : RoundTrip.Statement .eorZp := roundTrip_of_opcode rfl
theorem RoundTrip.lsrZp : RoundTrip.Statement .lsrZp := roundTrip_of_opcode rfl
theorem RoundTrip.sreZp : RoundTrip.Statement .sreZp := roundTrip_of_opcode rfl
theorem RoundTrip.pha : RoundTrip.Statement .pha := roundTrip_of_opcode rfl
theorem RoundTrip.eorImm : RoundTrip.Statement .eorImm := roundTrip_of_opcode rfl
theorem RoundTrip.lsrAcc : RoundTrip.Statement .lsrAcc := roundTrip_of_opcode rfl
theorem RoundTrip.alr : RoundTrip.Statement .alr := roundTrip_of_opcode rfl
theorem RoundTrip.jmpAbs : RoundTrip.Statement .jmpAbs := roundTrip_of_opcode rfl
theorem RoundTrip.eorAbs : RoundTrip.Statement .eorAbs := roundTrip_of_opcode rfl
theorem RoundTrip.lsrAbs : RoundTrip.Statement .lsrAbs := roundTrip_of_opcode rfl
theorem RoundTrip.sreAbs : RoundTrip.Statement .sreAbs := roundTrip_of_opcode rfl
theorem RoundTrip.bvc : RoundTrip.Statement .bvc := roundTrip_of_opcode rfl
theorem RoundTrip.eorIzy : RoundTrip.Statement .eorIzy := roundTrip_of_opcode rfl
theorem RoundTrip.jam52 : RoundTrip.Statement .jam52 := roundTrip_of_opcode rfl
theorem RoundTrip.sreIzy : RoundTrip.Statement .sreIzy := roundTrip_of_opcode rfl
theorem RoundTrip.nopZpx54 : RoundTrip.Statement .nopZpx54 := roundTrip_of_opcode rfl
theorem RoundTrip.eorZpx : RoundTrip.Statement .eorZpx := roundTrip_of_opcode rfl
theorem RoundTrip.lsrZpx : RoundTrip.Statement .lsrZpx := roundTrip_of_opcode rfl
theorem RoundTrip.sreZpx : RoundTrip.Statement .sreZpx := roundTrip_of_opcode rfl
theorem RoundTrip.cli : RoundTrip.Statement .cli := roundTrip_of_opcode rfl
theorem RoundTrip.eorAby : RoundTrip.Statement .eorAby := roundTrip_of_opcode rfl
theorem RoundTrip.nopImp5A : RoundTrip.Statement .nopImp5A := roundTrip_of_opcode rfl
theorem RoundTrip.sreAby : RoundTrip.Statement .sreAby := roundTrip_of_opcode rfl
theorem RoundTrip.nopAbx5C : RoundTrip.Statement .nopAbx5C := roundTrip_of_opcode rfl
theorem RoundTrip.eorAbx : RoundTrip.Statement .eorAbx := roundTrip_of_opcode rfl
theorem RoundTrip.lsrAbx : RoundTrip.Statement .lsrAbx := roundTrip_of_opcode rfl
theorem RoundTrip.sreAbx : RoundTrip.Statement .sreAbx := roundTrip_of_opcode rfl
theorem RoundTrip.rts : RoundTrip.Statement .rts := roundTrip_of_opcode rfl
theorem RoundTrip.adcIzx : RoundTrip.Statement .adcIzx := roundTrip_of_opcode rfl
theorem RoundTrip.jam62 : RoundTrip.Statement .jam62 := roundTrip_of_opcode rfl
theorem RoundTrip.rraIzx : RoundTrip.Statement .rraIzx := roundTrip_of_opcode rfl
theorem RoundTrip.nopZp64 : RoundTrip.Statement .nopZp64 := roundTrip_of_opcode rfl
theorem RoundTrip.adcZp : RoundTrip.Statement .adcZp := roundTrip_of_opcode rfl
theorem RoundTrip.rorZp : RoundTrip.Statement .rorZp := roundTrip_of_opcode rfl
theorem RoundTrip.rraZp : RoundTrip.Statement .rraZp := roundTrip_of_opcode rfl
theorem RoundTrip.pla : RoundTrip.Statement .pla := roundTrip_of_opcode rfl
theorem RoundTrip.adcImm : RoundTrip.Statement .adcImm := roundTrip_of_opcode rfl
theorem RoundTrip.rorAcc : RoundTrip.Statement .rorAcc := roundTrip_of_opcode rfl
theorem RoundTrip.arr : RoundTrip.Statement .arr := roundTrip_of_opcode rfl
theorem RoundTrip.jmpInd : RoundTrip.Statement .jmpInd := roundTrip_of_opcode rfl
theorem RoundTrip.adcAbs : RoundTrip.Statement .adcAbs := roundTrip_of_opcode rfl
theorem RoundTrip.rorAbs : RoundTrip.Statement .rorAbs := roundTrip_of_opcode rfl
theorem RoundTrip.rraAbs : RoundTrip.Statement .rraAbs := roundTrip_of_opcode rfl
theorem RoundTrip.bvs : RoundTrip.Statement .bvs := roundTrip_of_opcode rfl
theorem RoundTrip.adcIzy : RoundTrip.Statement .adcIzy := roundTrip_of_opcode rfl
theorem RoundTrip.jam72 : RoundTrip.Statement .jam72 := roundTrip_of_opcode rfl
theorem RoundTrip.rraIzy : RoundTrip.Statement .rraIzy := roundTrip_of_opcode rfl
theorem RoundTrip.nopZpx74 : RoundTrip.Statement .nopZpx74 := roundTrip_of_opcode rfl
theorem RoundTrip.adcZpx : RoundTrip.Statement .adcZpx := roundTrip_of_opcode rfl
theorem RoundTrip.rorZpx : RoundTrip.Statement .rorZpx := roundTrip_of_opcode rfl
theorem RoundTrip.rraZpx : RoundTrip.Statement .rraZpx := roundTrip_of_opcode rfl
theorem RoundTrip.sei : RoundTrip.Statement .sei := roundTrip_of_opcode rfl
theorem RoundTrip.adcAby : RoundTrip.Statement .adcAby := roundTrip_of_opcode rfl
theorem RoundTrip.nopImp7A : RoundTrip.Statement .nopImp7A := roundTrip_of_opcode rfl
theorem RoundTrip.rraAby : RoundTrip.Statement .rraAby := roundTrip_of_opcode rfl
theorem RoundTrip.nopAbx7C : RoundTrip.Statement .nopAbx7C := roundTrip_of_opcode rfl
theorem RoundTrip.adcAbx : RoundTrip.Statement .adcAbx := roundTrip_of_opcode rfl
theorem RoundTrip.rorAbx : RoundTrip.Statement .rorAbx := roundTrip_of_opcode rfl
theorem RoundTrip.rraAbx : RoundTrip.Statement .rraAbx := roundTrip_of_opcode rfl
theorem RoundTrip.nopImm80 : RoundTrip.Statement .nopImm80 := roundTrip_of_opcode rfl
theorem RoundTrip.staIzx : RoundTrip.Statement .staIzx := roundTrip_of_opcode rfl
theorem RoundTrip.nopImm82 : RoundTrip.Statement .nopImm82 := roundTrip_of_opcode rfl
theorem RoundTrip.saxIzx : RoundTrip.Statement .saxIzx := roundTrip_of_opcode rfl
theorem RoundTrip.styZp : RoundTrip.Statement .styZp := roundTrip_of_opcode rfl
theorem RoundTrip.staZp : RoundTrip.Statement .staZp := roundTrip_of_opcode rfl
theorem RoundTrip.stxZp : RoundTrip.Statement .stxZp := roundTrip_of_opcode rfl
theorem RoundTrip.saxZp : RoundTrip.Statement .saxZp := roundTrip_of_opcode rfl
theorem RoundTrip.dey : RoundTrip.Statement .dey := roundTrip_of_opcode rfl
theorem RoundTrip.nopImm89 : RoundTrip.Statement .nopImm89 := roundTrip_of_opcode rfl
theorem RoundTrip.txa : RoundTrip.Statement .txa := roundTrip_of_opcode rfl
theorem RoundTrip.ane : RoundTrip.Statement .ane := roundTrip_of_opcode rfl
theorem RoundTrip.styAbs : RoundTrip.Statement .styAbs := roundTrip_of_opcode rfl
theorem RoundTrip.staAbs : RoundTrip.Statement .staAbs := roundTrip_of_opcode rfl
theorem RoundTrip.stxAbs : RoundTrip.Statement .stxAbs := roundTrip_of_opcode rfl
theorem RoundTrip.saxAbs : RoundTrip.Statement .saxAbs := roundTrip_of_opcode rfl
theorem RoundTrip.bcc : RoundTrip.Statement .bcc := roundTrip_of_opcode rfl
theorem RoundTrip.staIzy : RoundTrip.Statement .staIzy := roundTrip_of_opcode rfl
theorem RoundTrip.jam92 : RoundTrip.Statement .jam92 := roundTrip_of_opcode rfl
theorem RoundTrip.shaIzy : RoundTrip.Statement .shaIzy := roundTrip_of_opcode rfl
theorem RoundTrip.styZpx : RoundTrip.Statement .styZpx := roundTrip_of_opcode rfl
theorem RoundTrip.staZpx : RoundTrip.Statement .staZpx := roundTrip_of_opcode rfl
theorem RoundTrip.stxZpy : RoundTrip.Statement .stxZpy := roundTrip_of_opcode rfl
theorem RoundTrip.saxZpy : RoundTrip.Statement .saxZpy := roundTrip_of_opcode rfl
theorem RoundTrip.tya : RoundTrip.Statement .tya := roundTrip_of_opcode rfl
theorem RoundTrip.staAby : RoundTrip.Statement .staAby := roundTrip_of_opcode rfl
theorem RoundTrip.txs : RoundTrip.Statement .txs := roundTrip_of_opcode rfl
theorem RoundTrip.tas : RoundTrip.Statement .tas := roundTrip_of_opcode rfl
theorem RoundTrip.shy : RoundTrip.Statement .shy := roundTrip_of_opcode rfl
theorem RoundTrip.staAbx : RoundTrip.Statement .staAbx := roundTrip_of_opcode rfl
theorem RoundTrip.shx : RoundTrip.Statement .shx := roundTrip_of_opcode rfl
theorem RoundTrip.shaAby : RoundTrip.Statement .shaAby := roundTrip_of_opcode rfl
theorem RoundTrip.ldyImm : RoundTrip.Statement .ldyImm := roundTrip_of_opcode rfl
theorem RoundTrip.ldaIzx : RoundTrip.Statement .ldaIzx := roundTrip_of_opcode rfl
theorem RoundTrip.ldxImm : RoundTrip.Statement .ldxImm := roundTrip_of_opcode rfl
theorem RoundTrip.laxIzx : RoundTrip.Statement .laxIzx := roundTrip_of_opcode rfl
theorem RoundTrip.ldyZp : RoundTrip.Statement .ldyZp := roundTrip_of_opcode rfl
theorem RoundTrip.ldaZp : RoundTrip.Statement .ldaZp := roundTrip_of_opcode rfl
theorem RoundTrip.ldxZp : RoundTrip.Statement .ldxZp := roundTrip_of_opcode rfl
theorem RoundTrip.laxZp : RoundTrip.Statement .laxZp := roundTrip_of_opcode rfl
theorem RoundTrip.tay : RoundTrip.Statement .tay := roundTrip_of_opcode rfl
theorem RoundTrip.ldaImm : RoundTrip.Statement .ldaImm := roundTrip_of_opcode rfl
theorem RoundTrip.tax : RoundTrip.Statement .tax := roundTrip_of_opcode rfl
theorem RoundTrip.lxa : RoundTrip.Statement .lxa := roundTrip_of_opcode rfl
theorem RoundTrip.ldyAbs : RoundTrip.Statement .ldyAbs := roundTrip_of_opcode rfl
theorem RoundTrip.ldaAbs : RoundTrip.Statement .ldaAbs := roundTrip_of_opcode rfl
theorem RoundTrip.ldxAbs : RoundTrip.Statement .ldxAbs := roundTrip_of_opcode rfl
theorem RoundTrip.laxAbs : RoundTrip.Statement .laxAbs := roundTrip_of_opcode rfl
theorem RoundTrip.bcs : RoundTrip.Statement .bcs := roundTrip_of_opcode rfl
theorem RoundTrip.ldaIzy : RoundTrip.Statement .ldaIzy := roundTrip_of_opcode rfl
theorem RoundTrip.jamB2 : RoundTrip.Statement .jamB2 := roundTrip_of_opcode rfl
theorem RoundTrip.laxIzy : RoundTrip.Statement .laxIzy := roundTrip_of_opcode rfl
theorem RoundTrip.ldyZpx : RoundTrip.Statement .ldyZpx := roundTrip_of_opcode rfl
theorem RoundTrip.ldaZpx : RoundTrip.Statement .ldaZpx := roundTrip_of_opcode rfl
theorem RoundTrip.ldxZpy : RoundTrip.Statement .ldxZpy := roundTrip_of_opcode rfl
theorem RoundTrip.laxZpy : RoundTrip.Statement .laxZpy := roundTrip_of_opcode rfl
theorem RoundTrip.clv : RoundTrip.Statement .clv := roundTrip_of_opcode rfl
theorem RoundTrip.ldaAby : RoundTrip.Statement .ldaAby := roundTrip_of_opcode rfl
theorem RoundTrip.tsx : RoundTrip.Statement .tsx := roundTrip_of_opcode rfl
theorem RoundTrip.las : RoundTrip.Statement .las := roundTrip_of_opcode rfl
theorem RoundTrip.ldyAbx : RoundTrip.Statement .ldyAbx := roundTrip_of_opcode rfl
theorem RoundTrip.ldaAbx : RoundTrip.Statement .ldaAbx := roundTrip_of_opcode rfl
theorem RoundTrip.ldxAby : RoundTrip.Statement .ldxAby := roundTrip_of_opcode rfl
theorem RoundTrip.laxAby : RoundTrip.Statement .laxAby := roundTrip_of_opcode rfl
theorem RoundTrip.cpyImm : RoundTrip.Statement .cpyImm := roundTrip_of_opcode rfl
theorem RoundTrip.cmpIzx : RoundTrip.Statement .cmpIzx := roundTrip_of_opcode rfl
theorem RoundTrip.nopImmC2 : RoundTrip.Statement .nopImmC2 := roundTrip_of_opcode rfl
theorem RoundTrip.dcpIzx : RoundTrip.Statement .dcpIzx := roundTrip_of_opcode rfl
theorem RoundTrip.cpyZp : RoundTrip.Statement .cpyZp := roundTrip_of_opcode rfl
theorem RoundTrip.cmpZp : RoundTrip.Statement .cmpZp := roundTrip_of_opcode rfl
theorem RoundTrip.decZp : RoundTrip.Statement .decZp := roundTrip_of_opcode rfl
theorem RoundTrip.dcpZp : RoundTrip.Statement .dcpZp := roundTrip_of_opcode rfl
theorem RoundTrip.iny : RoundTrip.Statement .iny := roundTrip_of_opcode rfl
theorem RoundTrip.cmpImm : RoundTrip.Statement .cmpImm := roundTrip_of_opcode rfl
theorem RoundTrip.dex : RoundTrip.Statement .dex := roundTrip_of_opcode rfl
theorem RoundTrip.sbx : RoundTrip.Statement .sbx := roundTrip_of_opcode rfl
theorem RoundTrip.cpyAbs : RoundTrip.Statement .cpyAbs := roundTrip_of_opcode rfl
theorem RoundTrip.cmpAbs : RoundTrip.Statement .cmpAbs := roundTrip_of_opcode rfl
theorem RoundTrip.decAbs : RoundTrip.Statement .decAbs := roundTrip_of_opcode rfl
theorem RoundTrip.dcpAbs : RoundTrip.Statement .dcpAbs := roundTrip_of_opcode rfl
theorem RoundTrip.bne : RoundTrip.Statement .bne := roundTrip_of_opcode rfl
theorem RoundTrip.cmpIzy : RoundTrip.Statement .cmpIzy := roundTrip_of_opcode rfl
theorem RoundTrip.jamD2 : RoundTrip.Statement .jamD2 := roundTrip_of_opcode rfl
theorem RoundTrip.dcpIzy : RoundTrip.Statement .dcpIzy := roundTrip_of_opcode rfl
theorem RoundTrip.nopZpxD4 : RoundTrip.Statement .nopZpxD4 := roundTrip_of_opcode rfl
theorem RoundTrip.cmpZpx : RoundTrip.Statement .cmpZpx := roundTrip_of_opcode rfl
theorem RoundTrip.decZpx : RoundTrip.Statement .decZpx := roundTrip_of_opcode rfl
theorem RoundTrip.dcpZpx : RoundTrip.Statement .dcpZpx := roundTrip_of_opcode rfl
theorem RoundTrip.cld : RoundTrip.Statement .cld := roundTrip_of_opcode rfl
theorem RoundTrip.cmpAby : RoundTrip.Statement .cmpAby := roundTrip_of_opcode rfl
theorem RoundTrip.nopImpDA : RoundTrip.Statement .nopImpDA := roundTrip_of_opcode rfl
theorem RoundTrip.dcpAby : RoundTrip.Statement .dcpAby := roundTrip_of_opcode rfl
theorem RoundTrip.nopAbxDC : RoundTrip.Statement .nopAbxDC := roundTrip_of_opcode rfl
theorem RoundTrip.cmpAbx : RoundTrip.Statement .cmpAbx := roundTrip_of_opcode rfl
theorem RoundTrip.decAbx : RoundTrip.Statement .decAbx := roundTrip_of_opcode rfl
theorem RoundTrip.dcpAbx : RoundTrip.Statement .dcpAbx := roundTrip_of_opcode rfl
theorem RoundTrip.cpxImm : RoundTrip.Statement .cpxImm := roundTrip_of_opcode rfl
theorem RoundTrip.sbcIzx : RoundTrip.Statement .sbcIzx := roundTrip_of_opcode rfl
theorem RoundTrip.nopImmE2 : RoundTrip.Statement .nopImmE2 := roundTrip_of_opcode rfl
theorem RoundTrip.iscIzx : RoundTrip.Statement .iscIzx := roundTrip_of_opcode rfl
theorem RoundTrip.cpxZp : RoundTrip.Statement .cpxZp := roundTrip_of_opcode rfl
theorem RoundTrip.sbcZp : RoundTrip.Statement .sbcZp := roundTrip_of_opcode rfl
theorem RoundTrip.incZp : RoundTrip.Statement .incZp := roundTrip_of_opcode rfl
theorem RoundTrip.iscZp : RoundTrip.Statement .iscZp := roundTrip_of_opcode rfl
theorem RoundTrip.inx : RoundTrip.Statement .inx := roundTrip_of_opcode rfl
theorem RoundTrip.sbcImm : RoundTrip.Statement .sbcImm := roundTrip_of_opcode rfl
theorem RoundTrip.nop : RoundTrip.Statement .nop := roundTrip_of_opcode rfl
theorem RoundTrip.usbc : RoundTrip.Statement .usbc := roundTrip_of_opcode rfl
theorem RoundTrip.cpxAbs : RoundTrip.Statement .cpxAbs := roundTrip_of_opcode rfl
theorem RoundTrip.sbcAbs : RoundTrip.Statement .sbcAbs := roundTrip_of_opcode rfl
theorem RoundTrip.incAbs : RoundTrip.Statement .incAbs := roundTrip_of_opcode rfl
theorem RoundTrip.iscAbs : RoundTrip.Statement .iscAbs := roundTrip_of_opcode rfl
theorem RoundTrip.beq : RoundTrip.Statement .beq := roundTrip_of_opcode rfl
theorem RoundTrip.sbcIzy : RoundTrip.Statement .sbcIzy := roundTrip_of_opcode rfl
theorem RoundTrip.jamF2 : RoundTrip.Statement .jamF2 := roundTrip_of_opcode rfl
theorem RoundTrip.iscIzy : RoundTrip.Statement .iscIzy := roundTrip_of_opcode rfl
theorem RoundTrip.nopZpxF4 : RoundTrip.Statement .nopZpxF4 := roundTrip_of_opcode rfl
theorem RoundTrip.sbcZpx : RoundTrip.Statement .sbcZpx := roundTrip_of_opcode rfl
theorem RoundTrip.incZpx : RoundTrip.Statement .incZpx := roundTrip_of_opcode rfl
theorem RoundTrip.iscZpx : RoundTrip.Statement .iscZpx := roundTrip_of_opcode rfl
theorem RoundTrip.sed : RoundTrip.Statement .sed := roundTrip_of_opcode rfl
theorem RoundTrip.sbcAby : RoundTrip.Statement .sbcAby := roundTrip_of_opcode rfl
theorem RoundTrip.nopImpFA : RoundTrip.Statement .nopImpFA := roundTrip_of_opcode rfl
theorem RoundTrip.iscAby : RoundTrip.Statement .iscAby := roundTrip_of_opcode rfl
theorem RoundTrip.nopAbxFC : RoundTrip.Statement .nopAbxFC := roundTrip_of_opcode rfl
theorem RoundTrip.sbcAbx : RoundTrip.Statement .sbcAbx := roundTrip_of_opcode rfl
theorem RoundTrip.incAbx : RoundTrip.Statement .incAbx := roundTrip_of_opcode rfl
theorem RoundTrip.iscAbx : RoundTrip.Statement .iscAbx := roundTrip_of_opcode rfl

end Sys2Proof.Laws
end

