-- ==== Sys2Proof/Safety.lean ====
section
/-! DEFINITION. The terms in which claims about the machine are made: the operand addresses of R96 and the transaction logs of R122 to R137 written independently of the sequencer, what an instruction's completion says about the whole state, the opcode table's counts, and the invariants. -/

namespace Sys2Proof.Safety

open Sys2Proof.Machine

/-! ### Registers and accesses -/

/-- The registers that instructions name (R21), but for PC. -/
structure RegFile where
  a : Byte
  x : Byte
  y : Byte
  s : Byte
  p : Flags
  deriving DecidableEq, Repr

/-- The register file of a state. -/
def regs (s : State) : RegFile := ⟨s.a, s.x, s.y, s.s, s.p⟩

/-- One transaction as the history shows it: direction, address, data byte. -/
structure Access where
  dir : Dir
  addr : Word
  data : Byte
  deriving DecidableEq, Repr

/-- A read transaction that returns the byte that plain memory holds in `s`. -/
def rd (s : State) (a : Word) : Access := ⟨.read, a, peek s a⟩

/-- A write transaction. -/
def wr (a : Word) (v : Byte) : Access := ⟨.write, a, v⟩

/-- The byte at address `a` after the writes of a log, when it was `old` before. -/
def written : List Access → Word → Byte → Byte
  | [], _, old => old
  | acc :: rest, a, old => written rest a (if acc.dir = .write ∧ acc.addr = a then acc.data else old)

/-- The history after a log of transactions of the core, the first at clock `clock` (R65). -/
def recorded : Nat → List Access → List Event → List Event
  | _, [], h => h
  | clock, acc :: rest, h => recorded (clock + 1) rest (⟨0, clock, acc.dir, acc.addr, acc.data⟩ :: h)

/-- A page-1 address (R12, R67). -/
def stackAt (b : Byte) : Word := (0x01 : Byte) ++ b

/-- A page-0 address (R15). -/
def zp (b : Byte) : Word := (0x00 : Byte) ++ b

/-! ### Operands (R96), in the state right after the opcode fetch: PC addresses the byte after the opcode -/

/-- The first byte after the opcode. -/
def b2 (s : State) : Byte := peek s s.pc

/-- The second byte after the opcode. -/
def b3 (s : State) : Byte := peek s (s.pc + 1)

/-- The base address `{b3, b2}` of the absolute modes. -/
def base (s : State) : Word := b3 s ++ b2 s

/-- The address that (zp),Y finds in its zero-page pointer, before Y is added. -/
def pointed (s : State) : Word := peek s (zp (b2 s + 1)) ++ peek s (zp (b2 s))

/-- The operand's address in each mode (R96). Immediate: the operand byte's own address. Modes without an operand in
memory: PC. -/
def effective : Mode → State → Word
  | .implied, s => s.pc
  | .accumulator, s => s.pc
  | .relative, s => s.pc
  | .immediate, s => s.pc
  | .zeroPage, s => (b2 s).setWidth 16
  | .zeroPageX, s => (b2 s + s.x).setWidth 16
  | .zeroPageY, s => (b2 s + s.y).setWidth 16
  | .absolute, s => base s
  | .absoluteIndirect, s => base s
  | .absoluteX, s => base s + s.x.setWidth 16
  | .absoluteY, s => base s + s.y.setWidth 16
  | .indexedIndirect, s => peek s (zp (b2 s + s.x + 1)) ++ peek s (zp (b2 s + s.x))
  | .indirectIndexed, s => pointed s + s.y.setWidth 16

/-- The address with the index added to the low byte only (R127): the tentative address of the indexed modes. -/
def tentative : Mode → State → Word
  | .absoluteX, s => b3 s ++ (b2 s + s.x)
  | .absoluteY, s => b3 s ++ (b2 s + s.y)
  | .indirectIndexed, s => peek s (zp (b2 s + 1)) ++ (peek s (zp (b2 s)) + s.y)
  | m, s => effective m s

/-- The page is crossed: the index add changes the page of the address (R14, R127). -/
def crossed (m : Mode) (s : State) : Bool := tentative m s != effective m s

/-- Whether the write and read-modify-write classes of the mode read the tentative address first (R128, R129, R132,
R133). -/
def indexed : Mode → Bool
  | .absoluteX => true
  | .absoluteY => true
  | .indirectIndexed => true
  | _ => false

/-! ### Transaction logs, from T2 on (R123 to R133) -/

/-- The transactions that form the operand's address. -/
def addressing : Mode → State → List Access
  | .implied, _ => []
  | .accumulator, _ => []
  | .relative, _ => []
  | .immediate, _ => []
  | .zeroPage, s => [rd s s.pc]
  | .zeroPageX, s => [rd s s.pc, rd s (zp (b2 s))]
  | .zeroPageY, s => [rd s s.pc, rd s (zp (b2 s))]
  | .absolute, s => [rd s s.pc, rd s (s.pc + 1)]
  | .absoluteIndirect, s => [rd s s.pc, rd s (s.pc + 1)]
  | .absoluteX, s => [rd s s.pc, rd s (s.pc + 1)]
  | .absoluteY, s => [rd s s.pc, rd s (s.pc + 1)]
  | .indexedIndirect, s => [rd s s.pc, rd s (zp (b2 s)), rd s (zp (b2 s + s.x)), rd s (zp (b2 s + s.x + 1))]
  | .indirectIndexed, s => [rd s s.pc, rd s (zp (b2 s)), rd s (zp (b2 s + 1))]

/-- The log of a read-class instruction: an extra read, at the tentative address, only when the page is crossed. -/
def readLog (m : Mode) (s : State) : List Access :=
  addressing m s ++ (if crossed m s then [rd s (tentative m s)] else []) ++ [rd s (effective m s)]

/-- The dummy read that the indexed write and read-modify-write forms always make. -/
def dummyLog (m : Mode) (s : State) : List Access := if indexed m then [rd s (tentative m s)] else []

/-- The log of a write-class instruction that stores `v`. -/
def writeLog (m : Mode) (s : State) (v : Byte) : List Access :=
  addressing m s ++ dummyLog m s ++ [wr (effective m s) v]

/-- The operand byte (R96). -/
def operand (m : Mode) (s : State) : Byte := peek s (effective m s)

/-- The log of a read-modify-write instruction that stores `v`: the unmodified byte is written first (R121). -/
def modifyLog (m : Mode) (s : State) (v : Byte) : List Access :=
  addressing m s ++ dummyLog m s
    ++ [rd s (effective m s), wr (effective m s) (operand m s), wr (effective m s) v]

/-! ### Completion -/

/-- A state in which an instruction whose opcode has been fetched runs to its end without stopping: at a boundary, all
of memory plain, polling not suspended, the memory in canonical form, and budget for the pending stall cycles and seven
more transactions. -/
structure Ready (s : State) : Prop where
  boundary : s.position = .boundary
  plain : s.devices = []
  polls : s.suspend = false
  canonical : Memory.wf s.mem = true
  budget : 7 + s.sched.stallPending < s.sched.budget

/-- The sampler after polls with the lines held and with `i` the I flag that the last poll saw (R313). -/
def Sampled (i : Bool) (s t : State) : Prop :=
  t.nmiPrev = s.nmiLine
    ∧ t.nmiPending = (s.nmiPending || (s.nmiLine && !s.nmiPrev))
    ∧ t.intPending = (t.nmiPending || (s.irqLines != 0 && !i))
    ∧ t.intVector = (if t.nmiPending then 0xFFFA else 0xFFFE)

/-- What a completed sequence leaves alone: the input lines, the run state, the requests, the arbiter, the other
contexts, the device windows, the last report, the driver's calls; and it stands at a boundary with no latch in use and
polling enabled. -/
structure Untouched (s t : State) : Prop where
  ir : t.ir = s.ir
  nmiLine : t.nmiLine = s.nmiLine
  irqLines : t.irqLines = s.irqLines
  run : t.run = s.run
  active : t.active = s.active
  others : t.others = s.others
  devices : t.devices = s.devices
  report : t.report = s.report
  driver : t.driver = s.driver
  boundary : t.position = .boundary
  latch : t.latch = Latches.clear
  polls : t.suspend = false

/-- The transactions of `log` were performed, in that order and no other (R62): the history, the clock and the budget
show them, the pending stall cycles are accounted by the first of them, a read (R61, R64), and memory holds what they
wrote. -/
structure Performed (log : List Access) (s t : State) : Prop where
  history : t.history = recorded (s.sched.clock + s.sched.stallPending) log s.history
  sched : t.sched = ⟨s.sched.budget - s.sched.stallPending - log.length,
    s.sched.clock + s.sched.stallPending + log.length, 0, s.sched.ctx⟩
  memory : ∀ a : Word, peek t a = written log a (peek s a)
  canonical : Memory.wf t.mem = true

/-- What a completed instruction did: its log from T2 on, its registers, its PC, the I flag that its polling point saw,
and the transient registers OPR and EA (R21); `ea` is none where a statement leaves EA open. -/
structure Effect where
  log : List Access
  regs : RegFile
  pc : Word
  pollI : Bool
  opr : Byte
  ea : Option Word

/-- `t` follows `s` by the effect `e`, and nothing else has changed. -/
structure Follows (e : Effect) (s t : State) : Prop where
  registers : regs t = e.regs
  pc : t.pc = e.pc
  opr : t.opr = e.opr
  ea : ∀ a, e.ea = some a → t.ea = a
  resetReq : t.resetReq = s.resetReq
  performed : Performed e.log s t
  sampled : Sampled e.pollI s t
  untouched : Untouched s t

/-- Instruction `i` completes from `s` with the effect `e`. -/
def Ends (i : Instr) (s : State) (e : Effect) : Prop :=
  ∃ t, exec i s = .next t ∧ Follows e s t

/-- EA after an instruction of the mode whose operand is in memory: the operand's address (R124 to R133); in the other
modes it is not written. -/
def latchedEa (m : Mode) (s : State) : Word :=
  match m with
  | .implied | .accumulator | .immediate | .relative => s.ea
  | _ => effective m s

/-- PC after the operand bytes of the mode. -/
def pastOperand (m : Mode) (s : State) : Word := s.pc + BitVec.ofNat 16 m.operandBytes

/-- A read-class or immediate instruction of mode `m` completes from every ready state; `f` gives the registers from the
operand byte. PC moves past the operand bytes, memory is unchanged (the log writes nothing). -/
def ReadsOperand (i : Instr) (m : Mode) (f : Byte → RegFile → RegFile) : Prop :=
  ∀ s, Ready s →
    Ends i s ⟨readLog m s, f (operand m s) (regs s), pastOperand m s, s.p.i, operand m s, some (latchedEa m s)⟩

/-- A write-class instruction of mode `m` completes from every ready state: it stores `v` of the registers at the
effective address and changes no register. -/
def StoresOperand (i : Instr) (m : Mode) (v : RegFile → Byte) : Prop :=
  ∀ s, Ready s →
    Ends i s ⟨writeLog m s (v (regs s)), regs s, pastOperand m s, s.p.i, s.opr, some (effective m s)⟩

/-- A read-modify-write instruction of mode `m` completes from every ready state: it stores the modified byte, and `f`
gives that byte and the registers from the operand byte. -/
def ModifiesOperand (i : Instr) (m : Mode) (f : Byte → RegFile → Byte × RegFile) : Prop :=
  ∀ s, Ready s →
    Ends i s ⟨modifyLog m s (f (operand m s) (regs s)).1, (f (operand m s) (regs s)).2, pastOperand m s, s.p.i,
      operand m s, some (effective m s)⟩

/-- An instruction that performs the transactions `log`, sets the registers and PC, and writes neither EA nor OPR; its
polling point sees the I flag `pollI`. -/
def Effect.plain (log : List Access) (r : RegFile) (pc : Word) (pollI : Bool) (s : State) : Effect :=
  ⟨log, r, pc, pollI, s.opr, some s.ea⟩

/-- An implied or accumulator instruction completes from every ready state: a dummy read at PC, which does not move, and
`f` on the registers (R122). -/
def ActsOnRegisters (i : Instr) (f : RegFile → RegFile) : Prop :=
  ∀ s, Ready s → Ends i s (.plain [rd s s.pc] (f (regs s)) s.pc s.p.i s)

/-- N and Z as a byte sets them (R12). -/
def nz (p : Flags) (v : Byte) : Flags := { p with n := v.msb, z := decide (v = 0) }

/-- The flags of a compare (R198): C is the unsigned comparison, N and Z those of the difference. -/
def compared (p : Flags) (reg m : Byte) : Flags := { nz p (reg - m) with c := decide (m ≤ reg) }

/-- The value of the carry as a byte. -/
def carryByte (c : Bool) : Byte := if c then 1 else 0

/-- The registers after an addition or subtraction with outcome `o` (R193, R194). -/
def withAlu (o : AluOut) (r : RegFile) : RegFile :=
  { r with a := o.r, p := { r.p with c := o.c, v := o.v, n := o.n, z := o.z } }

/-- The registers after ADC of `m` (R193). -/
def added (m : Byte) (r : RegFile) : RegFile :=
  if Config.decimalEnabled = true ∧ r.p.d = true then withAlu (adcDec r.a m r.p.c) r
  else withAlu (add8 r.a m r.p.c) r

/-- The registers after SBC of `m` (R194): binary SBC is the addition of the complement. -/
def subtracted (m : Byte) (r : RegFile) : RegFile :=
  if Config.decimalEnabled = true ∧ r.p.d = true then withAlu (sbcDec r.a m r.p.c) r
  else withAlu (add8 r.a (~~~m) r.p.c) r

/-- The registers after ARR of `m` (R281), in natural-number arithmetic. -/
def arrRegs (m : Byte) (r : RegFile) : RegFile :=
  let t := (r.a &&& m).toNat
  let rot := t / 2 + (if r.p.c then 128 else 0)
  if Config.decimalEnabled = true ∧ r.p.d = true then
    let rot₁ := if 5 < t % 16 + t % 2 then rot / 16 * 16 + (rot + 6) % 16 else rot
    let carry := decide (5 < t / 16 + t / 16 % 2)
    { r with
      a := BitVec.ofNat 8 (if carry then rot₁ + 96 else rot₁)
      p := { r.p with n := r.p.c, z := decide (rot = 0), v := (t.testBit 6 != rot.testBit 6), c := carry } }
  else
    { r with
      a := BitVec.ofNat 8 rot
      p := { nz r.p (BitVec.ofNat 8 rot) with c := rot.testBit 6, v := (rot.testBit 6 != rot.testBit 5) } }

/-! ### Transaction counts (R97, R375) -/

/-- The base transaction counts of the opcode map, one row of the map each (R97). -/
def countRows : List (List Nat) :=
  [[7, 6, 1, 8, 3, 3, 5, 5, 3, 2, 2, 2, 4, 4, 6, 6],
   [2, 5, 1, 8, 4, 4, 6, 6, 2, 4, 2, 7, 4, 4, 7, 7],
   [6, 6, 1, 8, 3, 3, 5, 5, 4, 2, 2, 2, 4, 4, 6, 6],
   [2, 5, 1, 8, 4, 4, 6, 6, 2, 4, 2, 7, 4, 4, 7, 7],
   [6, 6, 1, 8, 3, 3, 5, 5, 3, 2, 2, 2, 3, 4, 6, 6],
   [2, 5, 1, 8, 4, 4, 6, 6, 2, 4, 2, 7, 4, 4, 7, 7],
   [6, 6, 1, 8, 3, 3, 5, 5, 4, 2, 2, 2, 5, 4, 6, 6],
   [2, 5, 1, 8, 4, 4, 6, 6, 2, 4, 2, 7, 4, 4, 7, 7],
   [2, 6, 2, 6, 3, 3, 3, 3, 2, 2, 2, 2, 4, 4, 4, 4],
   [2, 6, 1, 6, 4, 4, 4, 4, 2, 5, 2, 5, 5, 5, 5, 5],
   [2, 6, 2, 6, 3, 3, 3, 3, 2, 2, 2, 2, 4, 4, 4, 4],
   [2, 5, 1, 5, 4, 4, 4, 4, 2, 4, 2, 4, 4, 4, 4, 4],
   [2, 6, 2, 8, 3, 3, 5, 5, 2, 2, 2, 2, 4, 4, 6, 6],
   [2, 5, 1, 8, 4, 4, 6, 6, 2, 4, 2, 7, 4, 4, 7, 7],
   [2, 6, 2, 8, 3, 3, 5, 5, 2, 2, 2, 2, 4, 4, 6, 6],
   [2, 5, 1, 8, 4, 4, 6, 6, 2, 4, 2, 7, 4, 4, 7, 7]]

/-- The base transaction count of an instruction in the opcode map (R97). -/
def baseCount (i : Instr) : Nat :=
  let op := (encodeOpcode i).toNat
  (countRows.getD (op / 16) []).getD (op % 16) 0

/-- The condition of a branch, from its opcode bits (R230): the flag that bits 7:6 select equals bit 5. -/
def branchTaken (op : Byte) (p : Flags) : Bool :=
  let flag := if op.getLsbD 7 then (if op.getLsbD 6 then p.z else p.c) else (if op.getLsbD 6 then p.v else p.n)
  flag == op.getLsbD 5

/-- The target of a branch (R96, R230), from the state after its opcode fetch. -/
def branchTarget (s : State) : Word := s.pc + 1 + (b2 s).signExtend 16

/-- Whether a branch's target lies in another page than the next instruction (R230). -/
def branchCrosses (s : State) : Bool := (branchTarget s).extractLsb' 8 8 != (s.pc + 1).extractLsb' 8 8

/-- The transactions beyond the base count (R97): one for a page crossing of an indexed read, one for a taken branch,
one more for a taken branch to another page. -/
def extraCount (i : Instr) (s : State) : Nat :=
  match i.accessClass with
  | .readOnly => if crossed i.mode s then 1 else 0
  | .branch =>
    if branchTaken (encodeOpcode i) s.p then (if branchCrosses s then 2 else 1) else 0
  | _ => 0

/-- The most transactions that an instruction can make (R97). -/
def maxCount (i : Instr) : Nat :=
  match i.accessClass with
  | .readOnly => baseCount i + (if indexed i.mode then 1 else 0)
  | .branch => baseCount i + 2
  | _ => baseCount i

/-! ### Invariants -/

/-- The arbiter's book-keeping (R35, R340, R342): a context is Active exactly when the arbiter holds it, so at most one
is, and a core that is not running is not executing. -/
def ArbiterOk (s : State) : Prop :=
  (s.active = some 0 ↔ s.sched.ctx = .active)
    ∧ (∀ k o, s.others[k]? = some o → (s.active = some (k + 1) ↔ o.sched.ctx = .active))
    ∧ (∀ k, s.active = some (k + 1) → k < s.others.length)
    ∧ (s.run ≠ .running → s.active ≠ some 0)

/-- The retained position names a transaction that its sequence has (R33, R120). -/
def PositionOk (s : State) : Prop :=
  match s.position with
  | .boundary => True
  | .inTxn .instr k _ => k = 0 ∨ k < maxCount (decodeOpcode s.ir)
  | .inTxn .entry k _ => k < 7
  | .inTxn .reset k _ => k < 7

/-- The level lines are a word of NIRQ bits (R31). -/
def LinesOk (s : State) : Prop := s.irqLines < 2 ^ Config.nirq

/-- The vector selection is the edge line's or the level lines' vector (R32). -/
def VectorOk (s : State) : Prop := s.intVector = 0xFFFA ∨ s.intVector = 0xFFFE

/-- The invariant of the machine: the memory in canonical form, the level lines within NIRQ bits, the
vector selection one of the two vectors, the arbiter and the
retained position consistent. -/
structure Inv (s : State) : Prop where
  memory : Memory.wf s.mem = true
  lines : LinesOk s
  vector : VectorOk s
  arbiter : ArbiterOk s
  position : PositionOk s

/-! ### Suspension and resumption (R342) -/

/-- `GrantCycles(0, n)` and then the start of `Resume(0)` on a suspended core (R341, R342). -/
def resumedWith (n : Int) (t : State) : State := activate 0 (updateSched 0 (Sched.grant n) t)

/-- A result without the driver's record of the last report. -/
def forgetReport : Result → Result
  | .next s => .next { s with report := none }
  | .fault f => .fault f
  | .refused r => .refused r

end Sys2Proof.Safety
end

