-- ==== Sys2Proof/Certificates/Slice0/Obligations.lean ====
section
/-! DEFINITION. The statements about the machine. -/

open Sys2Proof Sys2Proof.Machine Sys2Proof.Safety

/-- For all bytes a, b and carry in: r + 256*cout is a + b + cin; V is bit 7 of ~(a^b) & (a^r), which equals bit 7
of (a^r) & (b^r) and holds exactly when the signed sum leaves -128..127. N and Z are those of the result byte,
as setNZ(r) of R193 and R194 sets them. Formalises R190. -/
def Obligations.AdderIsExactSumWithSignOverflow : Prop :=
    ∀ (a b : Byte) (cin : Bool),
    (add8 a b cin).r.toNat + (if (add8 a b cin).c then 256 else 0) = a.toNat + b.toNat + cin.toNat ∧
    (add8 a b cin).v = (~~~(a ^^^ b) &&& (a ^^^ (add8 a b cin).r)).msb ∧
    (add8 a b cin).v = ((a ^^^ (add8 a b cin).r) &&& (b ^^^ (add8 a b cin).r)).msb ∧
    (add8 a b cin).v = decide (a.toInt + b.toInt + cin.toNat < -128 ∨ 127 < a.toInt + b.toInt + cin.toNat) ∧
    (add8 a b cin).n = (add8 a b cin).r.msb ∧
    (add8 a b cin).z = decide ((add8 a b cin).r = 0)

/-- For decimal digits of two bytes: adc_dec gives the two digits of the decimal sum modulo 100 with its carry;
sbc_dec gives the two digits of the decimal difference modulo 100. For all bytes, valid digits or not: adc_dec
takes N from bit 7 of the sum t before its high digit is adjusted, V from the signed range test on the high
digits and the adjusted low digit, and Z from the binary sum; sbc_dec takes C, V, N and Z from the binary
subtraction. Formalises R191, R192, 42_alu.md. -/
def Obligations.DecimalAdjustIsBcdArithmetic : Prop :=
    (∀ (a1 a0 b1 b0 : Nat) (cin : Bool), a1 < 10 → a0 < 10 → b1 < 10 → b0 < 10 →
      let a : Byte := BitVec.ofNat 8 (16 * a1 + a0)
      let b : Byte := BitVec.ofNat 8 (16 * b1 + b0)
      let sum := 10 * a1 + a0 + (10 * b1 + b0) + cin.toNat
      let diff := 100 + (10 * a1 + a0) + cin.toNat - 1 - (10 * b1 + b0)
      (adcDec a b cin).r = BitVec.ofNat 8 (16 * (sum % 100 / 10) + sum % 10) ∧
      (adcDec a b cin).c = decide (100 ≤ sum) ∧
      (sbcDec a b cin).r = BitVec.ofNat 8 (16 * (diff % 100 / 10) + diff % 10) ∧
      (sbcDec a b cin).c = decide (100 ≤ diff)) ∧
    (∀ (a b : Byte) (cin : Bool),
      let low := a.toNat % 16 + b.toNat % 16 + cin.toNat
      let adjusted := if 10 ≤ low then (low + 6) % 16 + 16 else low
      let signed := (a &&& 0xF0).toInt + (b &&& 0xF0).toInt + adjusted
      (adcDec a b cin).n = (a.toNat / 16 * 16 + b.toNat / 16 * 16 + adjusted).testBit 7 ∧
      (adcDec a b cin).v = decide (signed < -128 ∨ 127 < signed) ∧
      (adcDec a b cin).z = decide (a + b + carryByte cin = 0) ∧
      (sbcDec a b cin).c = (add8 a (~~~b) cin).c ∧
      (sbcDec a b cin).v = (add8 a (~~~b) cin).v ∧
      (sbcDec a b cin).n = (a + ~~~b + carryByte cin).msb ∧
      (sbcDec a b cin).z = decide (a + ~~~b + carryByte cin = 0))

/-- P_live has N V 1 0 D I Z C from bit 7 to bit 0, P_push is P_live with bit 4 set, loading takes bits 7 6 3 2 1 0
and ignores bits 5 and 4, and loading either view restores the flags. Formalises R27, R28, R29. -/
def Obligations.PackedStatusViewsAndLoad : Prop :=
    (∀ p : Flags, (List.range 8).map p.live.getLsbD = [p.c, p.z, p.i, p.d, false, true, p.v, p.n] ∧
      p.push = p.live ||| 0x10 ∧ Flags.load p.push = p ∧ Flags.load p.live = p) ∧
    (∀ b : Byte, Flags.load b =
      ⟨b.getLsbD 7, b.getLsbD 6, b.getLsbD 3, b.getLsbD 2, b.getLsbD 1, b.getLsbD 0⟩)

/-- The low and high views read bits 7:0 and 15:8; a write through a view changes only its bits; the word is always
the high view above the low view. Formalises R22, R23. -/
def Obligations.AliasedWordHasThreeViews : Prop :=
    ∀ (w : Word) (v : Byte),
    lo8 w = w.extractLsb' 0 8 ∧ hi8 w = w.extractLsb' 8 8 ∧ w = hi8 w ++ lo8 w ∧
    lo8 (writeLo w v) = v ∧ hi8 (writeLo w v) = hi8 w ∧ lo8 (writeHi w v) = lo8 w ∧ hi8 (writeHi w v) = v ∧
    writeLo w v = hi8 w ++ v ∧ writeHi w v = v ++ lo8 w

/-- In a memory in canonical form, after a write at an address of the space, that address reads the written byte and
every other address reads as before; two memories in canonical form that read alike are equal. (That memory is
plain, so that a read gives the last write, is the model's choice, and so is the byte that is not listed: log 2
and log 1. The spec leaves what an address reads to the resolver.) Formalises 20_memory.md. -/
def Obligations.MemoryReadsBackTheLastWrite : Prop :=
    (∀ (m : List Host.Cell) (a b : Nat) (v : Byte), Memory.wf m = true → a < 65536 →
      Memory.read (Memory.write m a v) b = (if b = a then v else Memory.read m b)) ∧
    (∀ m m' : List Host.Cell, Memory.wf m = true → Memory.wf m' = true →
      (∀ a, Memory.read m a = Memory.read m' a) → m = m')

/-- From every ready state each load completes: the register (A and X for LAX) takes the operand byte of R96, N and
Z follow it, no other register or flag changes, memory is unchanged, and the transactions are exactly those of
its mode. Formalises R160, R161, R162, R276. -/
def Obligations.LoadsSetRegisterAndNZ : Prop :=
    (∀ e ∈ ([(0xA1, .ldaIzx, .indexedIndirect), (0xA5, .ldaZp, .zeroPage), (0xA9, .ldaImm, .immediate),
      (0xAD, .ldaAbs, .absolute), (0xB1, .ldaIzy, .indirectIndexed), (0xB5, .ldaZpx, .zeroPageX),
      (0xB9, .ldaAby, .absoluteY), (0xBD, .ldaAbx, .absoluteX)] : List (Byte × Instr × Mode)),
      decodeOpcode e.1 = e.2.1 ∧ ReadsOperand e.2.1 e.2.2 fun v r => { r with a := v, p := nz r.p v }) ∧
    (∀ e ∈ ([(0xA2, .ldxImm, .immediate), (0xA6, .ldxZp, .zeroPage), (0xAE, .ldxAbs, .absolute),
      (0xB6, .ldxZpy, .zeroPageY), (0xBE, .ldxAby, .absoluteY)] : List (Byte × Instr × Mode)),
      decodeOpcode e.1 = e.2.1 ∧ ReadsOperand e.2.1 e.2.2 fun v r => { r with x := v, p := nz r.p v }) ∧
    (∀ e ∈ ([(0xA0, .ldyImm, .immediate), (0xA4, .ldyZp, .zeroPage), (0xAC, .ldyAbs, .absolute),
      (0xB4, .ldyZpx, .zeroPageX), (0xBC, .ldyAbx, .absoluteX)] : List (Byte × Instr × Mode)),
      decodeOpcode e.1 = e.2.1 ∧ ReadsOperand e.2.1 e.2.2 fun v r => { r with y := v, p := nz r.p v }) ∧
    (∀ e ∈ ([(0xA3, .laxIzx, .indexedIndirect), (0xA7, .laxZp, .zeroPage), (0xAF, .laxAbs, .absolute),
      (0xB3, .laxIzy, .indirectIndexed), (0xB7, .laxZpy, .zeroPageY), (0xBF, .laxAby, .absoluteY)] : List (Byte × Instr × Mode)),
      decodeOpcode e.1 = e.2.1 ∧ ReadsOperand e.2.1 e.2.2 fun v r => { r with a := v, x := v, p := nz r.p v })

/-- From every ready state each store completes: its value (A, X, Y, or A AND X) is written at the effective address
of R96, no other byte of memory and no register or flag changes, and the transactions are exactly those of its
mode. Formalises R163, R164, R165, R275. -/
def Obligations.StoresWriteTheRegister : Prop :=
    (∀ e ∈ ([(0x81, .staIzx, .indexedIndirect), (0x85, .staZp, .zeroPage), (0x8D, .staAbs, .absolute),
      (0x91, .staIzy, .indirectIndexed), (0x95, .staZpx, .zeroPageX), (0x99, .staAby, .absoluteY),
      (0x9D, .staAbx, .absoluteX)] : List (Byte × Instr × Mode)),
      decodeOpcode e.1 = e.2.1 ∧ StoresOperand e.2.1 e.2.2 fun r => r.a) ∧
    (∀ e ∈ ([(0x86, .stxZp, .zeroPage), (0x8E, .stxAbs, .absolute), (0x96, .stxZpy, .zeroPageY)] : List (Byte × Instr × Mode)),
      decodeOpcode e.1 = e.2.1 ∧ StoresOperand e.2.1 e.2.2 fun r => r.x) ∧
    (∀ e ∈ ([(0x84, .styZp, .zeroPage), (0x8C, .styAbs, .absolute), (0x94, .styZpx, .zeroPageX)] : List (Byte × Instr × Mode)),
      decodeOpcode e.1 = e.2.1 ∧ StoresOperand e.2.1 e.2.2 fun r => r.y) ∧
    (∀ e ∈ ([(0x83, .saxIzx, .indexedIndirect), (0x87, .saxZp, .zeroPage), (0x8F, .saxAbs, .absolute),
      (0x97, .saxZpy, .zeroPageY)] : List (Byte × Instr × Mode)),
      decodeOpcode e.1 = e.2.1 ∧ StoresOperand e.2.1 e.2.2 fun r => r.a &&& r.x)

/-- From every ready state each transfer completes in one further transaction, a dummy read at PC: the destination
takes the source and, but for TXS, N and Z follow it; nothing else changes. Formalises R166, R167, R168, R169,
R170, R171. -/
def Obligations.TransfersCopyRegisters : Prop :=
    (∀ e ∈ ([(0xAA, .tax)] : List (Byte × Instr)),
      decodeOpcode e.1 = e.2 ∧ ActsOnRegisters e.2 fun r => { r with x := r.a, p := nz r.p r.a }) ∧
    (∀ e ∈ ([(0xA8, .tay)] : List (Byte × Instr)),
      decodeOpcode e.1 = e.2 ∧ ActsOnRegisters e.2 fun r => { r with y := r.a, p := nz r.p r.a }) ∧
    (∀ e ∈ ([(0x8A, .txa)] : List (Byte × Instr)),
      decodeOpcode e.1 = e.2 ∧ ActsOnRegisters e.2 fun r => { r with a := r.x, p := nz r.p r.x }) ∧
    (∀ e ∈ ([(0x98, .tya)] : List (Byte × Instr)),
      decodeOpcode e.1 = e.2 ∧ ActsOnRegisters e.2 fun r => { r with a := r.y, p := nz r.p r.y }) ∧
    (∀ e ∈ ([(0xBA, .tsx)] : List (Byte × Instr)),
      decodeOpcode e.1 = e.2 ∧ ActsOnRegisters e.2 fun r => { r with x := r.s, p := nz r.p r.s }) ∧
    (∀ e ∈ ([(0x9A, .txs)] : List (Byte × Instr)),
      decodeOpcode e.1 = e.2 ∧ ActsOnRegisters e.2 fun r => { r with s := r.x })

/-- From every ready state ADC, SBC and USBC complete: A and the flags N, V, Z, C are those of add8 (of the
complement for SBC), or of adc_dec and sbc_dec when DECIMAL_ENABLED and D = 1; nothing else changes. Formalises
R193, R194, R285. -/
def Obligations.AddAndSubtractFollowTheAdder : Prop :=
    (∀ e ∈ ([(0x61, .adcIzx, .indexedIndirect), (0x65, .adcZp, .zeroPage), (0x69, .adcImm, .immediate),
      (0x6D, .adcAbs, .absolute), (0x71, .adcIzy, .indirectIndexed), (0x75, .adcZpx, .zeroPageX),
      (0x79, .adcAby, .absoluteY), (0x7D, .adcAbx, .absoluteX)] : List (Byte × Instr × Mode)),
      decodeOpcode e.1 = e.2.1 ∧ ReadsOperand e.2.1 e.2.2 fun v r => added v r) ∧
    (∀ e ∈ ([(0xE1, .sbcIzx, .indexedIndirect), (0xE5, .sbcZp, .zeroPage), (0xE9, .sbcImm, .immediate),
      (0xED, .sbcAbs, .absolute), (0xF1, .sbcIzy, .indirectIndexed), (0xF5, .sbcZpx, .zeroPageX),
      (0xF9, .sbcAby, .absoluteY), (0xFD, .sbcAbx, .absoluteX)] : List (Byte × Instr × Mode)),
      decodeOpcode e.1 = e.2.1 ∧ ReadsOperand e.2.1 e.2.2 fun v r => subtracted v r) ∧
    (∀ e ∈ ([(0xEB, .usbc, .immediate)] : List (Byte × Instr × Mode)),
      decodeOpcode e.1 = e.2.1 ∧ ReadsOperand e.2.1 e.2.2 fun v r => subtracted v r)

/-- From every ready state each completes: A takes the bitwise result, N and Z follow it, nothing else changes.
Formalises R195, R196, R197. -/
def Obligations.LogicWritesAccumulatorAndNZ : Prop :=
    (∀ e ∈ ([(0x21, .andIzx, .indexedIndirect), (0x25, .andZp, .zeroPage), (0x29, .andImm, .immediate),
      (0x2D, .andAbs, .absolute), (0x31, .andIzy, .indirectIndexed), (0x35, .andZpx, .zeroPageX),
      (0x39, .andAby, .absoluteY), (0x3D, .andAbx, .absoluteX)] : List (Byte × Instr × Mode)),
      decodeOpcode e.1 = e.2.1 ∧ ReadsOperand e.2.1 e.2.2 fun v r =>
        { r with a := r.a &&& v, p := nz r.p (r.a &&& v) }) ∧
    (∀ e ∈ ([(0x01, .oraIzx, .indexedIndirect), (0x05, .oraZp, .zeroPage), (0x09, .oraImm, .immediate),
      (0x0D, .oraAbs, .absolute), (0x11, .oraIzy, .indirectIndexed), (0x15, .oraZpx, .zeroPageX),
      (0x19, .oraAby, .absoluteY), (0x1D, .oraAbx, .absoluteX)] : List (Byte × Instr × Mode)),
      decodeOpcode e.1 = e.2.1 ∧ ReadsOperand e.2.1 e.2.2 fun v r =>
        { r with a := r.a ||| v, p := nz r.p (r.a ||| v) }) ∧
    (∀ e ∈ ([(0x41, .eorIzx, .indexedIndirect), (0x45, .eorZp, .zeroPage), (0x49, .eorImm, .immediate),
      (0x4D, .eorAbs, .absolute), (0x51, .eorIzy, .indirectIndexed), (0x55, .eorZpx, .zeroPageX),
      (0x59, .eorAby, .absoluteY), (0x5D, .eorAbx, .absoluteX)] : List (Byte × Instr × Mode)),
      decodeOpcode e.1 = e.2.1 ∧ ReadsOperand e.2.1 e.2.2 fun v r =>
        { r with a := r.a ^^^ v, p := nz r.p (r.a ^^^ v) })

/-- From every ready state each compare completes: C is the unsigned comparison, N and Z those of the 8-bit
difference, no register and no other flag changes. Formalises R198, R199, R200, R201. -/
def Obligations.ComparesWriteOnlyNZC : Prop :=
    (∀ e ∈ ([(0xC1, .cmpIzx, .indexedIndirect), (0xC5, .cmpZp, .zeroPage), (0xC9, .cmpImm, .immediate),
      (0xCD, .cmpAbs, .absolute), (0xD1, .cmpIzy, .indirectIndexed), (0xD5, .cmpZpx, .zeroPageX),
      (0xD9, .cmpAby, .absoluteY), (0xDD, .cmpAbx, .absoluteX)] : List (Byte × Instr × Mode)),
      decodeOpcode e.1 = e.2.1 ∧ ReadsOperand e.2.1 e.2.2 fun v r => { r with p := compared r.p r.a v }) ∧
    (∀ e ∈ ([(0xE0, .cpxImm, .immediate), (0xE4, .cpxZp, .zeroPage), (0xEC, .cpxAbs, .absolute)] : List (Byte × Instr × Mode)),
      decodeOpcode e.1 = e.2.1 ∧ ReadsOperand e.2.1 e.2.2 fun v r => { r with p := compared r.p r.x v }) ∧
    (∀ e ∈ ([(0xC0, .cpyImm, .immediate), (0xC4, .cpyZp, .zeroPage), (0xCC, .cpyAbs, .absolute)] : List (Byte × Instr × Mode)),
      decodeOpcode e.1 = e.2.1 ∧ ReadsOperand e.2.1 e.2.2 fun v r => { r with p := compared r.p r.y v })

/-- From every ready state BIT completes: N and V are bits 7 and 6 of the memory byte, Z is whether A AND m is 0; A,
C, D and I do not change. Formalises R202. -/
def Obligations.BitTestTakesNVFromMemory : Prop :=
    (∀ e ∈ ([(0x24, .bitZp, .zeroPage), (0x2C, .bitAbs, .absolute)] : List (Byte × Instr × Mode)),
      decodeOpcode e.1 = e.2.1 ∧ ReadsOperand e.2.1 e.2.2 fun v r =>
        { r with p := { r.p with n := v.getLsbD 7, v := v.getLsbD 6, z := decide (r.a &&& v = 0) } })

/-- From every ready state INC and DEC complete: the log ends with the read, the write of the unmodified byte and
the write of the byte plus or minus one, N and Z follow the new byte, C and V and every other register stay.
Formalises R203, R204. -/
def Obligations.IncDecMemoryWritesTwice : Prop :=
    (∀ e ∈ ([(0xE6, .incZp, .zeroPage), (0xEE, .incAbs, .absolute), (0xF6, .incZpx, .zeroPageX),
      (0xFE, .incAbx, .absoluteX)] : List (Byte × Instr × Mode)),
      decodeOpcode e.1 = e.2.1 ∧ ModifiesOperand e.2.1 e.2.2 fun v r => (v + 1, { r with p := nz r.p (v + 1) })) ∧
    (∀ e ∈ ([(0xC6, .decZp, .zeroPage), (0xCE, .decAbs, .absolute), (0xD6, .decZpx, .zeroPageX),
      (0xDE, .decAbx, .absoluteX)] : List (Byte × Instr × Mode)),
      decodeOpcode e.1 = e.2.1 ∧ ModifiesOperand e.2.1 e.2.2 fun v r => (v - 1, { r with p := nz r.p (v - 1) }))

/-- From every ready state each completes: the index register is one more or one less modulo 256, N and Z follow it,
nothing else changes. Formalises R205, R206, R207, R208. -/
def Obligations.IncDecRegisterWraps : Prop :=
    (∀ e ∈ ([(0xE8, .inx)] : List (Byte × Instr)),
      decodeOpcode e.1 = e.2 ∧ ActsOnRegisters e.2 fun r =>
        { r with x := r.x + 1, p := nz r.p (r.x + 1) }) ∧
    (∀ e ∈ ([(0xC8, .iny)] : List (Byte × Instr)),
      decodeOpcode e.1 = e.2 ∧ ActsOnRegisters e.2 fun r =>
        { r with y := r.y + 1, p := nz r.p (r.y + 1) }) ∧
    (∀ e ∈ ([(0xCA, .dex)] : List (Byte × Instr)),
      decodeOpcode e.1 = e.2 ∧ ActsOnRegisters e.2 fun r =>
        { r with x := r.x - 1, p := nz r.p (r.x - 1) }) ∧
    (∀ e ∈ ([(0x88, .dey)] : List (Byte × Instr)),
      decodeOpcode e.1 = e.2 ∧ ActsOnRegisters e.2 fun r =>
        { r with y := r.y - 1, p := nz r.p (r.y - 1) })

/-- From every ready state each form completes: the new byte is the shift or the rotate through the old carry, C is
the bit shifted out, N and Z follow the new byte; memory forms write twice; nothing else changes. Formalises
R209, R210, R211, R212. -/
def Obligations.ShiftsAndRotatesSetCarryFromOldByte : Prop :=
    (∀ e ∈ ([(0x06, .aslZp, .zeroPage), (0x0E, .aslAbs, .absolute), (0x16, .aslZpx, .zeroPageX),
      (0x1E, .aslAbx, .absoluteX)] : List (Byte × Instr × Mode)),
      decodeOpcode e.1 = e.2.1 ∧ ModifiesOperand e.2.1 e.2.2 fun v r =>
        (v <<< 1, { r with p := { nz r.p (v <<< 1) with c := v.msb } })) ∧
    (∀ e ∈ ([(0x0A, .aslAcc)] : List (Byte × Instr)),
      decodeOpcode e.1 = e.2 ∧ ActsOnRegisters e.2 fun r =>
        { r with a := r.a <<< 1, p := { nz r.p (r.a <<< 1) with c := r.a.msb } }) ∧
    (∀ e ∈ ([(0x46, .lsrZp, .zeroPage), (0x4E, .lsrAbs, .absolute), (0x56, .lsrZpx, .zeroPageX),
      (0x5E, .lsrAbx, .absoluteX)] : List (Byte × Instr × Mode)),
      decodeOpcode e.1 = e.2.1 ∧ ModifiesOperand e.2.1 e.2.2 fun v r =>
        (v >>> 1, { r with p := { nz r.p (v >>> 1) with c := v.getLsbD 0 } })) ∧
    (∀ e ∈ ([(0x4A, .lsrAcc)] : List (Byte × Instr)),
      decodeOpcode e.1 = e.2 ∧ ActsOnRegisters e.2 fun r =>
        { r with a := r.a >>> 1, p := { nz r.p (r.a >>> 1) with c := r.a.getLsbD 0 } }) ∧
    (∀ e ∈ ([(0x26, .rolZp, .zeroPage), (0x2E, .rolAbs, .absolute), (0x36, .rolZpx, .zeroPageX),
      (0x3E, .rolAbx, .absoluteX)] : List (Byte × Instr × Mode)),
      decodeOpcode e.1 = e.2.1 ∧ ModifiesOperand e.2.1 e.2.2 fun v r =>
        (v <<< 1 ||| carryByte r.p.c, { r with p := { nz r.p (v <<< 1 ||| carryByte r.p.c) with c := v.msb } })) ∧
    (∀ e ∈ ([(0x2A, .rolAcc)] : List (Byte × Instr)),
      decodeOpcode e.1 = e.2 ∧ ActsOnRegisters e.2 fun r =>
        { r with a := r.a <<< 1 ||| carryByte r.p.c, p := { nz r.p (r.a <<< 1 ||| carryByte r.p.c) with c := r.a.msb } }) ∧
    (∀ e ∈ ([(0x66, .rorZp, .zeroPage), (0x6E, .rorAbs, .absolute), (0x76, .rorZpx, .zeroPageX),
      (0x7E, .rorAbx, .absoluteX)] : List (Byte × Instr × Mode)),
      decodeOpcode e.1 = e.2.1 ∧ ModifiesOperand e.2.1 e.2.2 fun v r =>
        (v >>> 1 ||| carryByte r.p.c <<< 7, { r with p := { nz r.p (v >>> 1 ||| carryByte r.p.c <<< 7) with c := v.getLsbD 0 } })) ∧
    (∀ e ∈ ([(0x6A, .rorAcc)] : List (Byte × Instr)),
      decodeOpcode e.1 = e.2 ∧ ActsOnRegisters e.2 fun r =>
        { r with a := r.a >>> 1 ||| carryByte r.p.c <<< 7, p := { nz r.p (r.a >>> 1 ||| carryByte r.p.c <<< 7) with c := r.a.getLsbD 0 } })

/-- From every ready state each form completes: memory takes the shifted or rotated byte after the unmodified one; A
is combined with that byte by OR, AND, EOR, or ADC with the carry of the rotate; the flags are those of the
combination. Formalises R271, R272, R273, R274. -/
def Obligations.ShiftCombinationsUpdateAccumulator : Prop :=
    (∀ e ∈ ([(0x03, .sloIzx, .indexedIndirect), (0x07, .sloZp, .zeroPage), (0x0F, .sloAbs, .absolute),
      (0x13, .sloIzy, .indirectIndexed), (0x17, .sloZpx, .zeroPageX), (0x1B, .sloAby, .absoluteY),
      (0x1F, .sloAbx, .absoluteX)] : List (Byte × Instr × Mode)),
      decodeOpcode e.1 = e.2.1 ∧ ModifiesOperand e.2.1 e.2.2 fun v r =>
        (v <<< 1, { r with a := r.a ||| v <<< 1, p := { nz r.p (r.a ||| v <<< 1) with c := v.msb } })) ∧
    (∀ e ∈ ([(0x23, .rlaIzx, .indexedIndirect), (0x27, .rlaZp, .zeroPage), (0x2F, .rlaAbs, .absolute),
      (0x33, .rlaIzy, .indirectIndexed), (0x37, .rlaZpx, .zeroPageX), (0x3B, .rlaAby, .absoluteY),
      (0x3F, .rlaAbx, .absoluteX)] : List (Byte × Instr × Mode)),
      decodeOpcode e.1 = e.2.1 ∧ ModifiesOperand e.2.1 e.2.2 fun v r =>
        let m := v <<< 1 ||| carryByte r.p.c
        (m, { r with a := r.a &&& m, p := { nz r.p (r.a &&& m) with c := v.msb } })) ∧
    (∀ e ∈ ([(0x43, .sreIzx, .indexedIndirect), (0x47, .sreZp, .zeroPage), (0x4F, .sreAbs, .absolute),
      (0x53, .sreIzy, .indirectIndexed), (0x57, .sreZpx, .zeroPageX), (0x5B, .sreAby, .absoluteY),
      (0x5F, .sreAbx, .absoluteX)] : List (Byte × Instr × Mode)),
      decodeOpcode e.1 = e.2.1 ∧ ModifiesOperand e.2.1 e.2.2 fun v r =>
        (v >>> 1, { r with a := r.a ^^^ v >>> 1, p := { nz r.p (r.a ^^^ v >>> 1) with c := v.getLsbD 0 } })) ∧
    (∀ e ∈ ([(0x63, .rraIzx, .indexedIndirect), (0x67, .rraZp, .zeroPage), (0x6F, .rraAbs, .absolute),
      (0x73, .rraIzy, .indirectIndexed), (0x77, .rraZpx, .zeroPageX), (0x7B, .rraAby, .absoluteY),
      (0x7F, .rraAbx, .absoluteX)] : List (Byte × Instr × Mode)),
      decodeOpcode e.1 = e.2.1 ∧ ModifiesOperand e.2.1 e.2.2 fun v r =>
        let m := v >>> 1 ||| carryByte r.p.c <<< 7
        (m, added m { r with p := { r.p with c := v.getLsbD 0 } }))

/-- From every ready state each form completes: memory takes the byte less one (DCP) or plus one (ISC) after the
unmodified one; DCP compares A with it, ISC subtracts it from A with borrow. Formalises R277, R278. -/
def Obligations.DecrementCompareAndIncrementSubtract : Prop :=
    (∀ e ∈ ([(0xC3, .dcpIzx, .indexedIndirect), (0xC7, .dcpZp, .zeroPage), (0xCF, .dcpAbs, .absolute),
      (0xD3, .dcpIzy, .indirectIndexed), (0xD7, .dcpZpx, .zeroPageX), (0xDB, .dcpAby, .absoluteY),
      (0xDF, .dcpAbx, .absoluteX)] : List (Byte × Instr × Mode)),
      decodeOpcode e.1 = e.2.1 ∧ ModifiesOperand e.2.1 e.2.2 fun v r =>
        (v - 1, { r with p := compared r.p r.a (v - 1) })) ∧
    (∀ e ∈ ([(0xE3, .iscIzx, .indexedIndirect), (0xE7, .iscZp, .zeroPage), (0xEF, .iscAbs, .absolute),
      (0xF3, .iscIzy, .indirectIndexed), (0xF7, .iscZpx, .zeroPageX), (0xFB, .iscAby, .absoluteY),
      (0xFF, .iscAbx, .absoluteX)] : List (Byte × Instr × Mode)),
      decodeOpcode e.1 = e.2.1 ∧ ModifiesOperand e.2.1 e.2.2 fun v r => (v + 1, subtracted (v + 1) r))

/-- From every ready state ANC, ALR, SBX and LAS complete with the registers and flags of their rules (LAS loads A,
X and S with memory AND S); V and D do not change. Formalises R279, R280, R284, R291. -/
def Obligations.ImmediateCombinationsAndLas : Prop :=
    (∀ e ∈ ([(0x0B, .ancImm0B, .immediate), (0x2B, .ancImm2B, .immediate)] : List (Byte × Instr × Mode)),
      decodeOpcode e.1 = e.2.1 ∧ ReadsOperand e.2.1 e.2.2 fun v r =>
        { r with a := r.a &&& v, p := { nz r.p (r.a &&& v) with c := (r.a &&& v).msb } }) ∧
    (∀ e ∈ ([(0x4B, .alr, .immediate)] : List (Byte × Instr × Mode)),
      decodeOpcode e.1 = e.2.1 ∧ ReadsOperand e.2.1 e.2.2 fun v r =>
        { r with a := (r.a &&& v) >>> 1, p := { nz r.p ((r.a &&& v) >>> 1) with c := (r.a &&& v).getLsbD 0 } }) ∧
    (∀ e ∈ ([(0xCB, .sbx, .immediate)] : List (Byte × Instr × Mode)),
      decodeOpcode e.1 = e.2.1 ∧ ReadsOperand e.2.1 e.2.2 fun v r =>
        { r with x := (r.a &&& r.x) - v, p := compared r.p (r.a &&& r.x) v }) ∧
    (∀ e ∈ ([(0xBB, .las, .absoluteY)] : List (Byte × Instr × Mode)),
      decodeOpcode e.1 = e.2.1 ∧ ReadsOperand e.2.1 e.2.2 fun v r =>
        { r with a := v &&& r.s, x := v &&& r.s, s := v &&& r.s, p := nz r.p (v &&& r.s) })

/-- From every ready state ARR completes with A and N, V, Z, C as the rule computes them, in binary, and in decimal
when DECIMAL_ENABLED and D = 1. Formalises R281. -/
def Obligations.ArrRotatesWithItsOwnFlags : Prop :=
    (∀ e ∈ ([(0x6B, .arr, .immediate)] : List (Byte × Instr × Mode)),
      decodeOpcode e.1 = e.2.1 ∧ ReadsOperand e.2.1 e.2.2 fun v r => arrRegs v r)

/-- From every ready state ANE and LXA complete: A (and X for LXA) is the rule's expression in the open constants
ANE_MAGIC and LXA_MAGIC, N and Z follow it. It holds for every value of the constants. Formalises R282, R283. -/
def Obligations.UnstableImmediatesTakeTheirConstant : Prop :=
    (∀ e ∈ ([(0x8B, .ane, .immediate)] : List (Byte × Instr × Mode)),
      decodeOpcode e.1 = e.2.1 ∧ ReadsOperand e.2.1 e.2.2 fun v r =>
        let t := (r.a ||| Config.aneMagic) &&& r.x &&& v
        { r with a := t, p := nz r.p t }) ∧
    (∀ e ∈ ([(0xAB, .lxa, .immediate)] : List (Byte × Instr × Mode)),
      decodeOpcode e.1 = e.2.1 ∧ ReadsOperand e.2.1 e.2.2 fun v r =>
        let t := (r.a ||| Config.lxaMagic) &&& v
        { r with a := t, x := t, p := nz r.p t })

/-- From every ready state each completes: after the dummy read at the tentative address it writes the source AND (H
+ 1) at {H, low}, or at {that value, low} when the index add crosses a page; only TAS changes a register, S to A
AND X. Formalises R286, R287, R288, R289, R290. -/
def Obligations.HighByteStoresReplaceTheAddressOnCrossing : Prop :=
    (∀ e ∈ ([(0x9F, .shaAby)] : List (Byte × Instr)),
      decodeOpcode e.1 = e.2 ∧ ∀ s, Ready s →
        let v := (s.a &&& s.x) &&& (b3 s + 1)
        let dest : Word := (if crossed .absoluteY s then v else b3 s) ++ (tentative .absoluteY s).extractLsb' 0 8
        Ends e.2 s ⟨addressing .absoluteY s ++ [rd s (tentative .absoluteY s), wr dest v], regs s,
          s.pc + 2, s.p.i, s.opr, none⟩) ∧
    (∀ e ∈ ([(0x93, .shaIzy)] : List (Byte × Instr)),
      decodeOpcode e.1 = e.2 ∧ ∀ s, Ready s →
        let v := (s.a &&& s.x) &&& (peek s (zp (b2 s + 1)) + 1)
        let dest : Word := (if crossed .indirectIndexed s then v else peek s (zp (b2 s + 1))) ++ (tentative .indirectIndexed s).extractLsb' 0 8
        Ends e.2 s ⟨addressing .indirectIndexed s ++ [rd s (tentative .indirectIndexed s), wr dest v], regs s,
          s.pc + 1, s.p.i, s.opr, none⟩) ∧
    (∀ e ∈ ([(0x9E, .shx)] : List (Byte × Instr)),
      decodeOpcode e.1 = e.2 ∧ ∀ s, Ready s →
        let v := s.x &&& (b3 s + 1)
        let dest : Word := (if crossed .absoluteY s then v else b3 s) ++ (tentative .absoluteY s).extractLsb' 0 8
        Ends e.2 s ⟨addressing .absoluteY s ++ [rd s (tentative .absoluteY s), wr dest v], regs s,
          s.pc + 2, s.p.i, s.opr, none⟩) ∧
    (∀ e ∈ ([(0x9C, .shy)] : List (Byte × Instr)),
      decodeOpcode e.1 = e.2 ∧ ∀ s, Ready s →
        let v := s.y &&& (b3 s + 1)
        let dest : Word := (if crossed .absoluteX s then v else b3 s) ++ (tentative .absoluteX s).extractLsb' 0 8
        Ends e.2 s ⟨addressing .absoluteX s ++ [rd s (tentative .absoluteX s), wr dest v], regs s,
          s.pc + 2, s.p.i, s.opr, none⟩) ∧
    (∀ e ∈ ([(0x9B, .tas)] : List (Byte × Instr)),
      decodeOpcode e.1 = e.2 ∧ ∀ s, Ready s →
        let v := (s.a &&& s.x) &&& (b3 s + 1)
        let dest : Word := (if crossed .absoluteY s then v else b3 s) ++ (tentative .absoluteY s).extractLsb' 0 8
        Ends e.2 s ⟨addressing .absoluteY s ++ [rd s (tentative .absoluteY s), wr dest v], { regs s with s := s.a &&& s.x },
          s.pc + 2, s.p.i, s.opr, none⟩)

/-- From every ready state each NOP completes: it performs the reads of its mode, moves PC past its operand bytes
and changes no register and no flag. (That OPR and EA follow the transactions of the mode is the model's reading
of R292: log 21.) Formalises R257, R292, 43_control_stack.md, 44_undocumented.md. -/
def Obligations.NopsReadAndChangeNothing : Prop :=
    (∀ e ∈ ([(0x04, .nopZp04, .zeroPage), (0x0C, .nopAbs0C, .absolute), (0x14, .nopZpx14, .zeroPageX),
      (0x1C, .nopAbx1C, .absoluteX), (0x34, .nopZpx34, .zeroPageX), (0x3C, .nopAbx3C, .absoluteX),
      (0x44, .nopZp44, .zeroPage), (0x54, .nopZpx54, .zeroPageX), (0x5C, .nopAbx5C, .absoluteX),
      (0x64, .nopZp64, .zeroPage), (0x74, .nopZpx74, .zeroPageX), (0x7C, .nopAbx7C, .absoluteX),
      (0x80, .nopImm80, .immediate), (0x82, .nopImm82, .immediate), (0x89, .nopImm89, .immediate),
      (0xC2, .nopImmC2, .immediate), (0xD4, .nopZpxD4, .zeroPageX), (0xDC, .nopAbxDC, .absoluteX),
      (0xE2, .nopImmE2, .immediate), (0xF4, .nopZpxF4, .zeroPageX), (0xFC, .nopAbxFC, .absoluteX)] : List (Byte × Instr × Mode)),
      decodeOpcode e.1 = e.2.1 ∧ ReadsOperand e.2.1 e.2.2 fun _ r => r) ∧
    (∀ e ∈ ([(0x1A, .nopImp1A), (0x3A, .nopImp3A), (0x5A, .nopImp5A), (0x7A, .nopImp7A), (0xDA, .nopImpDA),
      (0xEA, .nop), (0xFA, .nopImpFA)] : List (Byte × Instr)),
      decodeOpcode e.1 = e.2 ∧ ActsOnRegisters e.2 fun r => r)

/-- From every ready state each branch completes: not taken, PC passes the displacement after one further
transaction; taken, PC is the next address plus the sign-extended displacement modulo 2^16, after a dummy read
at the next address and, for another page, one at {old high, new low}. No flag and no register changes.
Formalises R231, R232, R233, R234, R235, R236, R237, R238. -/
def Obligations.BranchesMoveOnlyPc : Prop :=
    ∀ e ∈ ([(0x10, .bpl, fun p => !p.n),
      (0x30, .bmi, fun p => p.n),
      (0x50, .bvc, fun p => !p.v),
      (0x70, .bvs, fun p => p.v),
      (0x90, .bcc, fun p => !p.c),
      (0xB0, .bcs, fun p => p.c),
      (0xD0, .bne, fun p => !p.z),
      (0xF0, .beq, fun p => p.z)] : List (Byte × Instr × (Flags → Bool))),
      decodeOpcode e.1 = e.2.1 ∧ (∀ p, branchTaken e.1 p = e.2.2 p) ∧
      ∀ s, Ready s →
        Ends e.2.1 s
          (if e.2.2 s.p then
            if branchCrosses s then
              ⟨[rd s s.pc, rd s (s.pc + 1),
                rd s ((s.pc + 1).extractLsb' 8 8 ++ (branchTarget s).extractLsb' 0 8)],
                regs s, branchTarget s, s.p.i, b2 s, some s.ea⟩
            else ⟨[rd s s.pc, rd s (s.pc + 1)], regs s, branchTarget s, s.p.i, b2 s, some s.ea⟩
          else ⟨[rd s s.pc], regs s, s.pc + 1, s.p.i, b2 s, some s.ea⟩)

/-- From every ready state JMP abs loads PC with its operand, and JMP (abs) with the two bytes at the pointer, the
second read from the pointer's own page; no register and no flag changes. Formalises R240, R241. -/
def Obligations.JumpsAndThePageWrapBug : Prop :=
    (∀ e ∈ ([(0x4C, .jmpAbs)] : List (Byte × Instr)),
      decodeOpcode e.1 = e.2 ∧ ∀ s, Ready s →
        Ends e.2 s ⟨[rd s s.pc, rd s (s.pc + 1)], regs s, base s, s.p.i, s.opr, some (base s)⟩) ∧
    (∀ e ∈ ([(0x6C, .jmpInd)] : List (Byte × Instr)),
      decodeOpcode e.1 = e.2 ∧ ∀ s, Ready s →
        let next : Word := b3 s ++ (b2 s + 1)
        Ends e.2 s ⟨[rd s s.pc, rd s (s.pc + 1), rd s (base s), rd s next], regs s,
          peek s next ++ peek s (base s), s.p.i, s.opr, some next⟩)

/-- From every ready state JSR completes: PCH at 0x0100+S and PCL at 0x0100+(S-1), S less two, PC the operand
address, its high byte fetched after the pushes; no flag changes. Formalises R242. -/
def Obligations.JsrPushesItsLastByteAddress : Prop :=
    (∀ e ∈ ([(0x20, .jsr)] : List (Byte × Instr)),
      decodeOpcode e.1 = e.2 ∧ ∀ s, Ready s →
        let pushes := [wr (stackAt s.s) ((s.pc + 1).extractLsb' 8 8), wr (stackAt (s.s - 1)) ((s.pc + 1).extractLsb' 0 8)]
        let high := written pushes (s.pc + 1) (peek s (s.pc + 1))
        Ends e.2 s
          ⟨[rd s s.pc, rd s (stackAt s.s)] ++ pushes ++ [⟨.read, s.pc + 1, high⟩],
            { regs s with s := s.s - 2 }, high ++ b2 s, s.p.i, s.opr, some s.ea⟩)

/-- From every ready state RTS completes: PC is the pulled word plus one, S two more, after dummy reads at PC, at
the stack and at the pulled address; no flag changes. Formalises R243. -/
def Obligations.RtsReturnsPastThePulledAddress : Prop :=
    (∀ e ∈ ([(0x60, .rts)] : List (Byte × Instr)),
      decodeOpcode e.1 = e.2 ∧ ∀ s, Ready s →
        let back : Word := peek s (stackAt (s.s + 2)) ++ peek s (stackAt (s.s + 1))
        Ends e.2 s
          ⟨[rd s s.pc, rd s (stackAt s.s), rd s (stackAt (s.s + 1)), rd s (stackAt (s.s + 2)), rd s back],
            { regs s with s := s.s + 2 }, back + 1, s.p.i, s.opr, some s.ea⟩)

/-- From every ready state RTI completes: the flags are loaded from the byte at 0x0100+(S+1), PC from the next two,
S three more; the polls after the load see the restored I. Formalises R244. -/
def Obligations.RtiRestoresFlagsThenPc : Prop :=
    (∀ e ∈ ([(0x40, .rti)] : List (Byte × Instr)),
      decodeOpcode e.1 = e.2 ∧ ∀ s, Ready s →
        let b := peek s (stackAt (s.s + 1))
        let p : Flags := ⟨b.getLsbD 7, b.getLsbD 6, b.getLsbD 3, b.getLsbD 2, b.getLsbD 1, b.getLsbD 0⟩
        Ends e.2 s
          ⟨[rd s s.pc, rd s (stackAt s.s), rd s (stackAt (s.s + 1)), rd s (stackAt (s.s + 2)), rd s (stackAt (s.s + 3))],
            { regs s with s := s.s + 3, p := p },
            peek s (stackAt (s.s + 3)) ++ peek s (stackAt (s.s + 2)), p.i, s.opr, some s.ea⟩)

/-- From every ready state BRK completes: PCH, PCL (of its address plus two) and P_push are written downward from
0x0100+S, S is three less, I is set, D and the other flags stay, PC is the word at 0xFFFE; the polls after the
status push see I = 1. Formalises R245, 43_control_stack.md. -/
def Obligations.BrkPushesAndJumpsThroughItsVector : Prop :=
    (∀ e ∈ ([(0x00, .brk)] : List (Byte × Instr)),
      decodeOpcode e.1 = e.2 ∧ ∀ s, Ready s →
        Ends e.2 s
          ⟨[rd s s.pc, wr (stackAt s.s) ((s.pc + 1).extractLsb' 8 8),
              wr (stackAt (s.s - 1)) ((s.pc + 1).extractLsb' 0 8), wr (stackAt (s.s - 2)) (s.p.live ||| 0x10),
              rd s 0xFFFE, rd s 0xFFFF],
            { regs s with s := s.s - 3, p := { s.p with i := true } }, peek s 0xFFFF ++ peek s 0xFFFE, true, s.opr, some s.ea⟩)

/-- From every ready state PHA and PHP complete: A, or the flags with bits 5 and 4 set, is written at 0x0100+S, S is
one less, nothing else changes. Formalises R246, R247. -/
def Obligations.PushesWriteOneStackByte : Prop :=
    (∀ e ∈ ([(0x48, .pha)] : List (Byte × Instr)),
      decodeOpcode e.1 = e.2 ∧ ∀ s, Ready s →
        Ends e.2 s ⟨[rd s s.pc, wr (stackAt s.s) s.a], { regs s with s := s.s - 1 }, s.pc, s.p.i, s.opr, some s.ea⟩) ∧
    (∀ e ∈ ([(0x08, .php)] : List (Byte × Instr)),
      decodeOpcode e.1 = e.2 ∧ ∀ s, Ready s →
        Ends e.2 s ⟨[rd s s.pc, wr (stackAt s.s) (s.p.live ||| 0x10)], { regs s with s := s.s - 1 }, s.pc, s.p.i, s.opr, some s.ea⟩)

/-- From every ready state PLA and PLP complete: after a dummy stack read the byte at 0x0100+(S+1) goes to A with N
and Z, or to all six flags after the last poll; S is one more. Formalises R248, R249. -/
def Obligations.PullsReadOneStackByte : Prop :=
    (∀ e ∈ ([(0x68, .pla)] : List (Byte × Instr)),
      decodeOpcode e.1 = e.2 ∧ ∀ s, Ready s →
        let v := peek s (stackAt (s.s + 1))
        Ends e.2 s ⟨[rd s s.pc, rd s (stackAt s.s), rd s (stackAt (s.s + 1))],
          { regs s with s := s.s + 1, a := v, p := nz s.p v }, s.pc, s.p.i, s.opr, some s.ea⟩) ∧
    (∀ e ∈ ([(0x28, .plp)] : List (Byte × Instr)),
      decodeOpcode e.1 = e.2 ∧ ∀ s, Ready s →
        let b := peek s (stackAt (s.s + 1))
        Ends e.2 s ⟨[rd s s.pc, rd s (stackAt s.s), rd s (stackAt (s.s + 1))],
          { regs s with s := s.s + 1,
                        p := ⟨b.getLsbD 7, b.getLsbD 6, b.getLsbD 3, b.getLsbD 2, b.getLsbD 1, b.getLsbD 0⟩ },
          s.pc, s.p.i, s.opr, some s.ea⟩)

/-- From every ready state each completes after one dummy read at PC: exactly its one flag takes its value, and its
polling point saw the old I. Formalises R250, R251, R254, R255, R256. -/
def Obligations.FlagInstructionsWriteOneFlag : Prop :=
    (∀ e ∈ ([(0x18, .clc)] : List (Byte × Instr)),
      decodeOpcode e.1 = e.2 ∧ ActsOnRegisters e.2 fun r => { r with p := { r.p with c := false } }) ∧
    (∀ e ∈ ([(0x38, .sec)] : List (Byte × Instr)),
      decodeOpcode e.1 = e.2 ∧ ActsOnRegisters e.2 fun r => { r with p := { r.p with c := true } }) ∧
    (∀ e ∈ ([(0x58, .cli)] : List (Byte × Instr)),
      decodeOpcode e.1 = e.2 ∧ ActsOnRegisters e.2 fun r => { r with p := { r.p with i := false } }) ∧
    (∀ e ∈ ([(0x78, .sei)] : List (Byte × Instr)),
      decodeOpcode e.1 = e.2 ∧ ActsOnRegisters e.2 fun r => { r with p := { r.p with i := true } }) ∧
    (∀ e ∈ ([(0xB8, .clv)] : List (Byte × Instr)),
      decodeOpcode e.1 = e.2 ∧ ActsOnRegisters e.2 fun r => { r with p := { r.p with v := false } }) ∧
    (∀ e ∈ ([(0xD8, .cld)] : List (Byte × Instr)),
      decodeOpcode e.1 = e.2 ∧ ActsOnRegisters e.2 fun r => { r with p := { r.p with d := false } }) ∧
    (∀ e ∈ ([(0xF8, .sed)] : List (Byte × Instr)),
      decodeOpcode e.1 = e.2 ∧ ActsOnRegisters e.2 fun r => { r with p := { r.p with d := true } })

/-- From every state at a boundary each JAM completes without a further transaction: run is Jammed, the context is
suspended, no context is active, the report is (Jammed, budget), and nothing else changes but the latches, which
a boundary clears. (The position, the life state and the moment of the report are the model's reading, and so
are the latches: log 17 and 13.) Formalises R293, R332, 44_undocumented.md. -/
def Obligations.JamStopsTheContext : Prop :=
    (∀ e ∈ ([(0x02, .jam02), (0x12, .jam12), (0x22, .jam22), (0x32, .jam32), (0x42, .jam42), (0x52, .jam52),
      (0x62, .jam62), (0x72, .jam72), (0x92, .jam92), (0xB2, .jamB2), (0xD2, .jamD2), (0xF2, .jamF2)] : List (Byte × Instr)),
      decodeOpcode e.1 = e.2 ∧ ∀ s, s.position = .boundary →
        exec e.2 s = .next
          { s with
            run := .jammed
            latch := Latches.clear
            sched := { s.sched with ctx := .suspended }
            active := none
            report := some ⟨0, .jammed, s.sched.budget⟩ })

/-- Encoding the decoded opcode gives the byte back for all 256 bytes, and decoding the encoded instruction gives it
back for all 256 instructions. Formalises R97, R100, 30_encoding.md. -/
def Obligations.OpcodeDecodingIsTotalAndInjective : Prop :=
    (∀ b : Byte, encodeOpcode (decodeOpcode b) = b) ∧ (∀ i : Instr, decodeOpcode (encodeOpcode i) = i)

/-- A few opcode-table words, one or more of each family, decode to the instruction the map gives them. Formalises
R97, 30_encoding.md. -/
def Obligations.SampleWordsDecodeToTheirInstruction : Prop :=
    decodeTableWord 8 0b00000000 = some .brk ∧
    decodeTableWord 8 0b10101001 = some .ldaImm ∧
    decodeTableWord 8 0b10000101 = some .staZp ∧
    decodeTableWord 8 0b00001010 = some .aslAcc ∧
    decodeTableWord 8 0b01101100 = some .jmpInd ∧
    decodeTableWord 8 0b00100000 = some .jsr ∧
    decodeTableWord 8 0b11110000 = some .beq ∧
    decodeTableWord 8 0b00101000 = some .plp ∧
    decodeTableWord 8 0b01011000 = some .cli ∧
    decodeTableWord 8 0b11101010 = some .nop ∧
    decodeTableWord 8 0b00000011 = some .sloIzx ∧
    decodeTableWord 8 0b10011110 = some .shx ∧
    decodeTableWord 8 0b11111100 = some .nopAbxFC ∧
    decodeTableWord 8 0b11110010 = some .jamF2

/-- For every instruction, every list of operand bytes of its format's length and every bytes after it, decode of
encode gives the stored instruction and the rest. Formalises R90, R97, 30_encoding.md. -/
def Obligations.StoredInstructionsRoundTrip : Prop :=
    ∀ i : Instr, Sys2Proof.Laws.RoundTrip.Statement i

/-- When the core is active at a boundary, running, with no reset or interrupt due, plain memory, and budget for the
fetch, and the bytes at PC decode to a stored instruction, the step is exec of that instruction in the state
after the opcode fetch: IR holds the opcode, PC is one more, one read at PC is performed, nothing else changes.
Formalises R97, R99, R318, 30_encoding.md. -/
def Obligations.StepRunsTheDecodedInstruction : Prop :=
    ∀ (s : State) (w : Stored) (rest : List Byte),
    s.active = some 0 → s.run = .running → s.resetReq = .none → s.intPending = false → s.position = .boundary →
    s.devices = [] → s.suspend = false → Memory.wf s.mem = true → 1 + s.sched.stallPending < s.sched.budget →
    decode [peek s s.pc, peek s (s.pc + 1), peek s (s.pc + 2)] = .ok (w, rest) →
      ∃ s', step s = exec w.instr s' ∧ s'.ir = peek s s.pc ∧ decodeOpcode s'.ir = w.instr ∧
        Follows ⟨[rd s s.pc], regs s, s.pc + 1, s.p.i, s.opr, some s.ea⟩ { s with ir := s'.ir, latch := Latches.clear }
          { s' with latch := Latches.clear } ∧
        s'.latch = s.latch

/-- For every instruction and ready state: the clock after it is the clock before, plus pending stalls, plus the
map's count less the opcode fetch, plus one for a page crossing of an indexed read, plus one or two for a taken
branch. Formalises R134. -/
def Obligations.TransactionCountsAreTheTables : Prop :=
    ∀ (i : Instr) (s t : State), Ready s → exec i s = .next t →
    t.sched.clock + 1 =
      s.sched.clock + (if i.accessClass = .jam then 0 else s.sched.stallPending) + baseCount i + extraCount i s

/-- At a boundary of the active core: a core that is not running stops and reports; otherwise a due reset sequence
runs; otherwise a pending interrupt is entered; otherwise the opcode at PC is fetched and its instruction runs.
Inside a sequence a pending interrupt or reset request changes nothing: the sequence goes on. Formalises R318. -/
def Obligations.BoundaryTakesFirstApplicableAction : Prop :=
    (∀ s : State, s.active = some 0 → s.position = .boundary →
    (s.run = .jammed → step s = .next (stop .jammed s)) ∧
    (∀ e, s.run = .faulted e → step s = .next (stop (.faulted e) s)) ∧
    (s.run = .running → s.resetReq = .reset → step s = beginReset s) ∧
    (s.run = .running → s.resetReq = .none → s.intPending = true → step s = beginEntry s) ∧
    (s.run = .running → s.resetReq = .none → s.intPending = false →
      step s = match fetchOpcode s with
        | .done d s' => exec (decodeOpcode (latchOpcode d s').ir) (latchOpcode d s')
        | .stopped s' => .next s'
        | .refused m => .refused (.outOfContract m))) ∧
    (∀ (s : State) (d : Byte), s.active = some 0 →
      (s.position = .inTxn .instr 0 d → step s = exec (decodeOpcode d) (latchOpcode d s)) ∧
      (∀ k, s.position = .inTxn .instr (k + 1) d → step s = exec (decodeOpcode s.ir) s) ∧
      (∀ k, s.position = .inTxn .entry k d → step s = resumeEntry s) ∧
      (∀ k, s.position = .inTxn .reset k d → step s = resumeReset s))

/-- From every ready state with a vector selection of 0xFFFA or 0xFFFE the entry completes in seven transactions:
two dummy reads at PC, PCH, PCL and P_live pushed, S three less, I set, PC the word at the vector; an edge-line
entry has cleared the Pending flag first; nothing else changes. Formalises R321, R322, 60_exceptions.md. -/
def Obligations.InterruptEntryPushesAndVectors : Prop :=
    ∀ s, Ready s → VectorOk s →
    ∃ t, beginEntry s = .next t ∧
      Follows
        ⟨[rd s s.pc, rd s s.pc, wr (stackAt s.s) (s.pc.extractLsb' 8 8), wr (stackAt (s.s - 1)) (s.pc.extractLsb' 0 8),
            wr (stackAt (s.s - 2)) s.p.live, rd s s.intVector, rd s (s.intVector + 1)],
          { regs s with s := s.s - 3, p := { s.p with i := true } },
          peek s (s.intVector + 1) ++ peek s s.intVector, true, s.opr, some s.ea⟩
        { s with nmiPending := s.nmiPending && s.intVector != 0xFFFA } t

/-- From every state that is ready but for its suspend flag, which may be set (a SoftReset leaves it: log 8), the
reset sequence completes and its transactions poll: dummy reads at PC twice and at three stack addresses,
nothing written, S three less, I set, PC the word at 0xFFFC, the request cleared; nothing else changes.
Formalises R362, 70_reset_and_hazards.md. -/
def Obligations.ResetSequenceReadsItsVector : Prop :=
    ∀ s, Ready { s with suspend := false } →
    ∃ t, beginReset s = .next t ∧
      Follows
        ⟨[rd s s.pc, rd s s.pc, rd s (stackAt s.s), rd s (stackAt (s.s - 1)), rd s (stackAt (s.s - 2)),
            rd s 0xFFFC, rd s 0xFFFD],
          { regs s with s := s.s - 3, p := { s.p with i := true } }, peek s 0xFFFD ++ peek s 0xFFFC, true, s.opr, some s.ea⟩
        { s with resetReq := .none } t

/-- A poll sets nmi_pending on a rising edge and keeps it otherwise, records the line, decides int_pending from it
and from the unmasked level lines, selects 0xFFFA when nmi_pending and 0xFFFE otherwise, and changes nothing
else. Formalises R313, R327, 60_exceptions.md. -/
def Obligations.PollLatchesEdgesAndSamplesLevels : Prop :=
    ∀ s : State,
    let pending := s.nmiPending || (s.nmiLine && !s.nmiPrev)
    poll s =
      { s with
        nmiPending := pending
        nmiPrev := s.nmiLine
        intPending := pending || (decide (s.irqLines ≠ 0) && !s.p.i)
        intVector := if pending then 0xFFFA else 0xFFFE }

/-- When the core goes on from the transaction before the last of a taken branch (in its page or out of it), of BRK,
of an interrupt entry or of the reset sequence, the sampler is after the last transaction as it was before it,
whatever the lines are. Formalises R230, R245, R316, R317, 60_exceptions.md. -/
def Obligations.SuspendedTransactionsDoNotPoll : Prop :=
    ∀ (s t : State) (d : Byte), s.devices = [] → 1 + s.sched.stallPending < s.sched.budget →
    (∀ e ∈ ([(0x10, .bpl, fun p => !p.n),
      (0x30, .bmi, fun p => p.n),
      (0x50, .bvc, fun p => !p.v),
      (0x70, .bvs, fun p => p.v),
      (0x90, .bcc, fun p => !p.c),
      (0xB0, .bcs, fun p => p.c),
      (0xD0, .bne, fun p => !p.z),
      (0xF0, .beq, fun p => p.z)] : List (Byte × Instr × (Flags → Bool))), e.2.2 s.p = true →
      (s.position = .inTxn .instr 1 d ∧ hi8 (s.pc + 1 + d.signExtend 16) = hi8 (s.pc + 1) ∨
        s.position = .inTxn .instr 2 d ∧ s.latch.c = true) →
      exec e.2.1 s = .next t →
      t.position = .boundary ∧ t.nmiPrev = s.nmiPrev ∧ t.nmiPending = s.nmiPending ∧
        t.intPending = s.intPending ∧ t.intVector = s.intVector) ∧
    ((s.position = .inTxn .instr 5 d ∧ exec .brk s = .next t ∨
        s.position = .inTxn .entry 5 d ∧ resumeEntry s = .next t ∨
        s.position = .inTxn .reset 5 d ∧ resumeReset s = .next t) →
      t.position = .boundary ∧ t.nmiPrev = s.nmiPrev ∧ t.nmiPending = s.nmiPending ∧
        t.intPending = s.intPending ∧ t.intVector = s.intVector)

/-- After a poll that saw the line high, and with the request served, a poll with the line still high does not
latch; after a poll that saw it low, a poll with the line high latches. Formalises R312, R327, 60_exceptions.md. -/
def Obligations.HeldLineNeverRelatches : Prop :=
    ∀ s : State,
    (s.nmiLine = true → (poll { poll s with nmiPending := false }).nmiPending = false) ∧
    (s.nmiLine = false → (poll { poll s with nmiLine := true }).nmiPending = true)

/-- If the edge line is pending and a step leads to a state where it is not, the step was the start of an interrupt
entry with vector 0xFFFA at a boundary of the running core, or a HardReset call of the driver; and a level
request whose lines are released before a poll leaves nothing. Formalises R313, R319, R361, 60_exceptions.md. -/
def Obligations.EdgeRequestWaitsForItsEntry : Prop :=
    (∀ s t : State, s.nmiPending = true → step s = .next t → t.nmiPending = false →
      (s.active = some 0 ∧ s.position = .boundary ∧ s.run = .running ∧ s.resetReq = .none ∧ s.intPending = true ∧
        s.intVector = 0xFFFA) ∨
      (s.active = none ∧ s.driver.head? = some (.hardReset 0))) ∧
    (∀ s : State, s.nmiPending = false → (s.nmiLine && !s.nmiPrev) = false → (s.irqLines = 0 ∨ s.p.i = true) →
      (poll s).intPending = false)

/-- A HardReset call made while no context is active is accepted unless the core is marked active, and gives the
listed values; memory, history, the other contexts and the driver's further calls stay (but for the history that
is the model's reading: log 26; so is that the lines it lowers are those the other contexts see: log 32). The
reset state of the model has the same values. HardReset of another context gives it the same scheduler and
execution state, a due reset sequence and the registers OTHER_CORE_STEP says (log 11), and changes nothing else,
the input lines included (log 32). Formalises R36, R361, R365, 70_reset_and_hazards.md. -/
def Obligations.HardResetSetsPowerOnValues : Prop :=
    (∀ s : State, s.active = none → s.sched.ctx ≠ .active →
    ∃ t, driverCall (.hardReset 0) s = .next t ∧
      (∀ u ∈ [t, State.reset],
        u.a = 0 ∧ u.x = 0 ∧ u.y = 0 ∧ u.s = 0 ∧ u.pc = 0 ∧ u.ea = 0 ∧ u.ir = 0 ∧ u.opr = 0 ∧
        u.p = ⟨false, false, false, true, false, false⟩ ∧ u.nmiLine = false ∧ u.irqLines = 0 ∧ u.nmiPrev = false ∧
        u.nmiPending = false ∧ u.intPending = false ∧ u.intVector = 0xFFFE ∧ u.suspend = false ∧
        u.run = .running ∧ u.resetReq = .reset ∧ u.position = .boundary ∧ u.sched = ⟨0, 0, 0, .idle⟩) ∧
      t.mem = s.mem ∧ t.history = s.history ∧ t.others = s.others ∧ t.driver = s.driver ∧ t.active = none) ∧
    (∀ (s : State) (k : Nat) (o : OtherContext), s.active = none → s.others[k]? = some o → o.sched.ctx ≠ .active →
      driverCall (.hardReset (k + 1)) s = .next
        { s with others := s.others.set k ⟨⟨0, 0, 0, .idle⟩, .running, .reset, 0, Config.otherHardReset k⟩ })

/-- A SoftReset call made while no context is active on an idle or suspended core sets I, the request, run, ctx and
position, and changes nothing else of the machine: A, X, Y, S, PC, the other flags, EA, IR, OPR, the input
lines, the sampler with its suspend flag (R363 over the table of R36: log 8), budget, clock and stalls keep
their values; the latches belong to the position (log 13). On another context it sets the same execution and
life state, keeps budget, clock and stalls, and changes its registers as OTHER_CORE_STEP says (log 11).
Formalises R363, 70_reset_and_hazards.md. -/
def Obligations.SoftResetKeepsRegisters : Prop :=
    (∀ s : State, s.active = none → (s.sched.ctx = .idle ∨ s.sched.ctx = .suspended) →
    driverCall (.softReset 0) s = .next
      { s with
        p := { s.p with i := true }
        resetReq := .reset
        run := .running
        position := .boundary
        latch := Latches.clear
        sched := { s.sched with ctx := .idle } }) ∧
    (∀ (s : State) (k : Nat) (o : OtherContext), s.active = none → s.others[k]? = some o →
      (o.sched.ctx = .idle ∨ o.sched.ctx = .suspended) →
      driverCall (.softReset (k + 1)) s = .next
        { s with
          others := s.others.set k
            ⟨{ o.sched with ctx := .idle }, .running, .reset, 0, Config.otherSoftReset k o.registers⟩ })

/-- While no context is active a step makes the next call of the driver, or changes nothing when there is none (log
5). Resume of an idle or suspended context, the core or another: a jammed or faulted one, or one with budget 0
or less, is reported with its budget and no transaction is performed; otherwise it becomes the active context.
An aborted one is refused. (That a misuse is a refusal of the step, and that Resume is the step that starts the
slice, are the model's: log 19 and 12.) Formalises R8, R332, R342, R347, 60_exceptions.md. -/
def Obligations.ResumeHonoursBudgetAndRunState : Prop :=
    ∀ s : State, s.active = none →
    (s.driver = [] → step s = .next s) ∧
    (∀ c rest, s.driver = c :: rest → step s = driverCall c { s with driver := rest }) ∧
    (s.sched.ctx = .aborted → driverCall (.resume 0) s = .refused (.outOfContract .resumeAborted)) ∧
    ((s.sched.ctx = .idle ∨ s.sched.ctx = .suspended) →
      (s.run = .jammed → driverCall (.resume 0) s = .next { s with report := some ⟨0, .jammed, s.sched.budget⟩ }) ∧
      (∀ e, s.run = .faulted e →
        driverCall (.resume 0) s = .next { s with report := some ⟨0, .faulted e, s.sched.budget⟩ }) ∧
      (s.run = .running → s.sched.budget ≤ 0 →
        driverCall (.resume 0) s = .next { s with report := some ⟨0, .exhausted, s.sched.budget⟩ }) ∧
      (s.run = .running → 0 < s.sched.budget →
        driverCall (.resume 0) s =
          .next { s with active := some 0, sched := { s.sched with ctx := .active } })) ∧
    (∀ (k : Nat) (o : OtherContext), s.others[k]? = some o →
      (o.sched.ctx = .aborted → driverCall (.resume (k + 1)) s = .refused (.outOfContract .resumeAborted)) ∧
      ((o.sched.ctx = .idle ∨ o.sched.ctx = .suspended) →
        (o.run = .jammed →
          driverCall (.resume (k + 1)) s = .next { s with report := some ⟨k + 1, .jammed, o.sched.budget⟩ }) ∧
        (∀ e, o.run = .faulted e →
          driverCall (.resume (k + 1)) s = .next { s with report := some ⟨k + 1, .faulted e, o.sched.budget⟩ }) ∧
        (o.run = .running → o.sched.budget ≤ 0 →
          driverCall (.resume (k + 1)) s = .next { s with report := some ⟨k + 1, .exhausted, o.sched.budget⟩ }) ∧
        (o.run = .running → 0 < o.sched.budget →
          driverCall (.resume (k + 1)) s =
            .next
              { s with
                active := some (k + 1)
                others := s.others.set k { o with sched := { o.sched with ctx := .active } } })))

/-- By the driver and during a transaction alike, on the core and on every other context, in whatever state it is:
GrantCycles with n >= 0 adds n to its budget, negative remainders included, and resumes nothing; Stall adds to
its stall_pending; with n < 0 GrantCycles is refused, and so is either call for a handle without a context.
(That a context is named by its handle, that a misuse is a refusal, and that both calls are accepted on an
aborted or jammed context, are the model's: log 18, 19, 29, 22 and 31.) Formalises R64, R341, R347,
60_exceptions.md. -/
def Obligations.GrantsAndStallsAreAdditive : Prop :=
    ∀ (s : State) (n : Int) (m : Nat),
    let granted : State := { s with sched := { s.sched with budget := s.sched.budget + n } }
    let stalled : State := { s with sched := { s.sched with stallPending := s.sched.stallPending + m } }
    (0 ≤ n → callDuring (.grantCycles 0 n) s = .ok granted ∧ driverCall (.grantCycles 0 n) s = .next granted) ∧
    callDuring (.stall 0 m) s = .ok stalled ∧ driverCall (.stall 0 m) s = .next stalled ∧
    (∀ (k : Nat) (o : OtherContext), s.others[k]? = some o →
      let grantedOther : State :=
        { s with others := s.others.set k { o with sched := { o.sched with budget := o.sched.budget + n } } }
      let stalledOther : State :=
        { s with others := s.others.set k { o with sched := { o.sched with stallPending := o.sched.stallPending + m } } }
      (0 ≤ n → callDuring (.grantCycles (k + 1) n) s = .ok grantedOther ∧
        driverCall (.grantCycles (k + 1) n) s = .next grantedOther) ∧
      callDuring (.stall (k + 1) m) s = .ok stalledOther ∧ driverCall (.stall (k + 1) m) s = .next stalledOther) ∧
    (∀ h : Nat, n < 0 → callDuring (.grantCycles h n) s = .error .negativeGrant ∧
      driverCall (.grantCycles h n) s = .refused (.outOfContract .negativeGrant)) ∧
    (∀ k : Nat, s.others.length ≤ k →
      (0 ≤ n → callDuring (.grantCycles (k + 1) n) s = .error .unknownContext ∧
        driverCall (.grantCycles (k + 1) n) s = .refused (.outOfContract .unknownContext)) ∧
      callDuring (.stall (k + 1) m) s = .error .unknownContext ∧
      driverCall (.stall (k + 1) m) s = .refused (.outOfContract .unknownContext))

/-- AssertLine on the edge line sets it; on level source i it sets bit i of the lines and no other bit; an unknown
source is refused; no other field changes. (Sources are named by their place in IRQ_SOURCES: log 4.) Formalises
R311, 60_exceptions.md. -/
def Obligations.AssertLineChangesOnlyTheLine : Prop :=
    ∀ (s : State) (asserted : Bool) (i : Nat),
    driverCall (.assertLine .nmi asserted) s = .next { s with nmiLine := asserted } ∧
    (i < Config.nirq → ∃ lines, driverCall (.assertLine (.level i) asserted) s = .next { s with irqLines := lines } ∧
      ∀ j, lines.testBit j = if j = i then asserted else s.irqLines.testBit j) ∧
    (Config.nirq ≤ i → driverCall (.assertLine (.level i) asserted) s = .refused (.outOfContract .unknownSource))

/-- While no context is active, Abort of an idle or suspended context, the core or another, makes it Aborted and
discards its position, keeping registers and history; Abort, SoftReset and Resume of an aborted core are
refused. Resume, the resets and Abort of any context are refused while any context is active, and from within a
transaction; so is a resolver that suspends. (That a misuse is a refusal of the step, and that SoftReset and
Abort of an aborted core are misuses, are the model's readings: log 19 and 23.) Formalises R334, R345, R346,
R347, R364, 60_exceptions.md. -/
def Obligations.AbortAndMisuse : Prop :=
    (∀ s : State, s.active = none →
      ((s.sched.ctx = .idle ∨ s.sched.ctx = .suspended) →
        driverCall (.abort 0) s = .next
          { s with position := .boundary, latch := Latches.clear, sched := { s.sched with ctx := .aborted } }) ∧
      (s.sched.ctx = .aborted →
        driverCall (.abort 0) s = .refused (.outOfContract .abortAborted) ∧
        driverCall (.softReset 0) s = .refused (.outOfContract .softResetAborted) ∧
        driverCall (.resume 0) s = .refused (.outOfContract .resumeAborted)) ∧
      (∀ (k : Nat) (o : OtherContext), s.others[k]? = some o →
        (o.sched.ctx = .idle ∨ o.sched.ctx = .suspended) →
        driverCall (.abort (k + 1)) s = .next
          { s with others := s.others.set k { o with position := 0, sched := { o.sched with ctx := .aborted } } })) ∧
    (∀ (s : State) (h : Nat), s.active ≠ none →
      driverCall (.resume h) s = .refused (.outOfContract .whileActive) ∧
      driverCall (.hardReset h) s = .refused (.outOfContract .whileActive) ∧
      driverCall (.softReset h) s = .refused (.outOfContract .whileActive) ∧
      driverCall (.abort h) s = .refused (.outOfContract .whileActive)) ∧
    (∀ (s : State) (h : Nat) (rest : List CollabCall),
      collaborate (.call (.resume h) :: rest) s = .error .whileActive ∧
      collaborate (.call (.hardReset h) :: rest) s = .error .whileActive ∧
      collaborate (.call (.softReset h) :: rest) s = .error .whileActive ∧
      collaborate (.call (.abort h) :: rest) s = .error .whileActive ∧
      collaborate (.suspendCaller :: rest) s = .error .resolverSuspends)

/-- A transaction of the core that plain memory answers: a read accounts the pending stall cycles and a write does
not; the event with the clock before the tick is put on the history; clock and budget move by one; with budget
left the transaction is done, otherwise the core is suspended in it with the byte kept and the report
(Exhausted, budget). (That the position keeps the byte is the model's form: log 13.) Formalises R61, R64, R65,
R342, 20_memory.md. -/
def Obligations.TransactionAccountsRecordsAndYields : Prop :=
    ∀ (q : SeqKind) (k : Nat) (sus : Bool) (a : Word) (v : Byte) (s : State), s.devices = [] →
    let polled := if s.suspend || sus then { s with suspend := true } else poll s
    let due := s.sched.stallPending
    let afterRead : State :=
      { polled with
        sched := ⟨s.sched.budget - due - 1, s.sched.clock + due + 1, 0, s.sched.ctx⟩
        history := ⟨0, s.sched.clock + due, .read, a, peek s a⟩ :: s.history }
    let afterWrite : State :=
      { polled with
        sched := ⟨s.sched.budget - 1, s.sched.clock + 1, due, s.sched.ctx⟩
        history := ⟨0, s.sched.clock, .write, a, v⟩ :: s.history
        mem := Memory.write s.mem a.toNat v }
    let suspended (d : Byte) (t : State) : State :=
      { t with
        position := .inTxn q k d
        active := none
        sched := { t.sched with ctx := .suspended }
        report := some ⟨0, .exhausted, t.sched.budget⟩ }
    transact q k sus (readTxn a) s =
        (if 0 < afterRead.sched.budget then .done (peek s a) afterRead
          else .stopped (suspended (peek s a) afterRead)) ∧
    transact q k sus (writeTxn a v) s =
        (if 0 < afterWrite.sched.budget then .done v afterWrite else .stopped (suspended v afterWrite))

/-- For every transaction of the core that goes to the oracle RESOLVER, by the reply: the calls it makes take effect
in order, or refuse the step if one is out of contract; a byte completes the transaction (event, tick, yield
when the budget is used up); a thrown error, or a read value that is no byte, stops the core Faulted with that
payload: no event is recorded, and clock, budget and pending stalls are as before the transaction, the
collaborator's calls apart. (That the stall accounting of step a is undone, that the poll and the calls made
stand, and the form of the payload and of the position are the model's: log 7, 30, 27, 14 and 13.) Formalises
R61, R63, R331, 20_memory.md, 60_exceptions.md. -/
def Obligations.DeviceTransactionsFollowTheReply : Prop :=
    ∀ (q : SeqKind) (k : Nat) (sus : Bool) (x : Txn) (s : State), toDevice x s = true →
    let polled := if s.suspend || sus then { s with suspend := true } else poll s
    let reply := Config.resolver x s.history
    let due := s.sched.due x.dir
    match collaborate reply.calls { polled with sched := polled.sched.account due } with
    | .error m => transact q k sus x s = .refused m
    | .ok u =>
      let failed (e : Payload) : State :=
        { u with
          run := .faulted e
          position := .inTxn q k 0
          sched := { u.sched.unaccount due with ctx := .suspended }
          active := none
          report := some ⟨0, .faulted e, u.sched.budget + due⟩ }
      let performed (d : Byte) : State :=
        { u with
          history := ⟨0, u.sched.clock, x.dir, x.addr, d⟩ :: u.history
          sched := { u.sched with clock := u.sched.clock + 1, budget := u.sched.budget - 1 } }
      let suspended (d : Byte) : State :=
        { performed d with
          position := .inTxn q k d
          sched := { (performed d).sched with ctx := .suspended }
          active := none
          report := some ⟨0, .exhausted, (performed d).sched.budget⟩ }
      let answered (d : Byte) : Prop :=
        transact q k sus x s =
          if 0 < (performed d).sched.budget then .done d (performed d) else .stopped (suspended d)
      u.history = s.history ∧ u.sched.clock = s.sched.clock + due ∧ u.mem = s.mem ∧ regs u = regs s ∧ u.pc = s.pc ∧
      match reply.answer, x.dir with
      | .thrown code, _ => transact q k sus x s = .stopped (failed (.thrown code))
      | .value v, .read =>
        if 0 ≤ v ∧ v ≤ 255 then answered (BitVec.ofInt 8 v)
        else transact q k sus x s = .stopped (failed (.notAByte v))
      | .value _, .write => answered x.data

/-- If an instruction (or the interrupt entry, or the reset sequence, or a whole step of the core, its opcode fetch
included) yields in the middle and the driver grants n more cycles, enough to go on, and resumes it, then what
it does from there is exactly what it would have done in one piece had the n cycles been granted at its start:
the same final state, fault or refusal, the driver's record of the last report apart. (The form of the retained
position is the model's: log 12 and 13.) Formalises R33, R342, 60_exceptions.md. -/
def Obligations.YieldAndResumptionAreTransparent : Prop :=
    ∀ (s t : State) (n : Int), s.active = some 0 → s.sched.ctx = .active → s.run = .running →
    t.position ≠ .boundary → t.run = .running → 0 ≤ n → 0 < t.sched.budget + n →
    (∀ i, exec i s = .next t →
      forgetReport (exec i (resumedWith n t)) = forgetReport (exec i (updateSched 0 (Sched.grant n) s))) ∧
    (resumeEntry s = .next t →
      forgetReport (resumeEntry (resumedWith n t)) =
        forgetReport (resumeEntry (updateSched 0 (Sched.grant n) s))) ∧
    (resumeReset s = .next t →
      forgetReport (resumeReset (resumedWith n t)) =
        forgetReport (resumeReset (updateSched 0 (Sched.grant n) s))) ∧
    (step s = .next t →
      forgetReport (step (resumedWith n t)) = forgetReport (step (updateSched 0 (Sched.grant n) s)))

/-- The memory is in canonical form, no level line is set beyond NIRQ, the vector selection is a vector, the arbiter
and the position are consistent in the state after reset. (That nothing is listed in memory, that no context is
active and that there is no other context are the model's choices: log 1, 11 and 15.) Formalises R36,
10_state.md. -/
def Obligations.ResetStateMeetsInvariant : Prop :=
    Inv State.reset

/-- From every state that meets the invariant, a step that gives a next state gives one that meets it: canonical
memory, level lines within NIRQ bits, a legal vector selection, at most one active context and the arbiter
naming it, a retained position inside its sequence. Formalises R31, R32, R33, R35, R340, 10_state.md,
60_exceptions.md. -/
def Obligations.EveryStepKeepsTheInvariant : Prop :=
    ∀ s t : State, Inv s → step s = .next t → Inv t

/-- From every state that meets the invariant, a step is never refused for a transaction that its sequence does not
have: the decoder or addressing bug of the error taxonomy cannot arise. (That such a position is refused is the
model's choice: log 20.) Formalises R120, R333, 60_exceptions.md. -/
def Obligations.RetainedPositionsCanAlwaysContinue : Prop :=
    ∀ s : State, Inv s → step s ≠ .refused .noSuchTransaction

/-- In every step that gives a next state the earlier history is kept whole beneath the new events, resets included.
Formalises R62, R65, R361, 20_memory.md. -/
def Obligations.HistoryOnlyGrows : Prop :=
    ∀ s t : State, step s = .next t → s.history <:+ t.history

/-- From every state that meets the invariant with the core jammed, a step that gives a next state either keeps it
jammed, its registers, flags, PC, EA, IR, OPR, sampler, reset request and clock unchanged, or is a HardReset or
SoftReset of the core by the driver, made while no context is active. (Its budget and pending stalls can still
be raised by GrantCycles and Stall, and Abort can tear it down: log 31.) Formalises R293, R328, R353,
44_undocumented.md. -/
def Obligations.JamIsLeftOnlyByReset : Prop :=
    ∀ s t : State, Inv s → s.run = .jammed → step s = .next t →
    (t.run = .jammed ∧ regs t = regs s ∧ t.pc = s.pc ∧ t.ea = s.ea ∧ t.ir = s.ir ∧ t.opr = s.opr ∧
      t.sched.clock = s.sched.clock ∧ t.nmiPrev = s.nmiPrev ∧ t.nmiPending = s.nmiPending ∧
      t.intPending = s.intPending ∧ t.intVector = s.intVector ∧ t.suspend = s.suspend ∧ t.resetReq = s.resetReq) ∨
    (s.active = none ∧
      (s.driver.head? = some (.hardReset 0) ∨ s.driver.head? = some (.softReset 0)))

/-- In every step that is not a HardReset of the core: the clock does not go back, and if the history has no new
transaction of the core the clock is unchanged. (That a transaction whose resolver fails leaves the clock as it
was, stalls pending or not, is the model's reading of R331 over R61: log 7.) Formalises R331, R344, R375,
60_exceptions.md. -/
def Obligations.ClockMovesOnlyWithTransactions : Prop :=
    ∀ s t : State, step s = .next t → ¬ (s.active = none ∧ s.driver.head? = some (.hardReset 0)) →
    s.sched.clock ≤ t.sched.clock ∧
    ((∀ e ∈ t.history.take (t.history.length - s.history.length), e.context ≠ 0) →
      t.sched.clock = s.sched.clock)

/-- While another context is active, a step of it is refused only for an out-of-contract call of a collaborator, and
otherwise leaves the core's registers, PC, transient registers, sampler state, run state, position, clock and
life state as they are. When it is running, by what OTHER_CORE_STEP says: a context that has ended its forward
progress is jammed, suspended and reported; a transaction answered by plain memory is performed and recorded
with that context's clock, takes its reset request at a boundary, moves its clock, budget, position and
registers, and yields when the budget is used up. (The form of the other contexts, their steps and their handles
are the model's: log 11, 12 and 29.) Formalises R20, R33, R61, R347, R351, 60_exceptions.md. -/
def Obligations.OtherContextsLeaveTheCoreAlone : Prop :=
    ∀ (s : State) (k : Nat) (o : OtherContext), s.active = some (k + 1) → s.others[k]? = some o →
    (match step s with
      | .next t =>
        regs t = regs s ∧ t.pc = s.pc ∧ t.ea = s.ea ∧ t.ir = s.ir ∧ t.opr = s.opr ∧ t.nmiPrev = s.nmiPrev ∧
        t.nmiPending = s.nmiPending ∧ t.intPending = s.intPending ∧ t.intVector = s.intVector ∧
        t.suspend = s.suspend ∧ t.run = s.run ∧ t.resetReq = s.resetReq ∧ t.position = s.position ∧
        t.latch = s.latch ∧ t.sched.clock = s.sched.clock ∧ t.sched.ctx = s.sched.ctx
      | .fault _ => False
      | .refused r => ∃ m, r = .outOfContract m) ∧
    (o.run = .running →
      match Config.otherCoreStep k ⟨o.resetReq == .reset, o.position, o.registers, s.nmiLine, s.irqLines⟩ s.history with
      | .jam =>
        step s = .next
          { s with
            others := s.others.set k
              { o with run := .jammed, position := 0, sched := { o.sched with ctx := .suspended } }
            active := none
            report := some ⟨k + 1, .jammed, o.sched.budget⟩ }
      | .txn x => toDevice x s = false →
        let due := o.sched.due x.dir
        let data := if x.dir = .read then peek s x.addr else x.data
        let history := ⟨k + 1, o.sched.clock + due, x.dir, x.addr, data⟩ :: s.history
        let after := Config.otherCoreAfter k
          ⟨o.resetReq == .reset, o.position, o.registers, s.nmiLine, s.irqLines⟩ history data
        let goesOn := due + 1 < o.sched.budget
        ∃ t, step s = .next t ∧ t.history = history ∧
          t.mem = (if x.dir = .write then Memory.write s.mem x.addr.toNat x.data else s.mem) ∧
          t.active = (if goesOn then some (k + 1) else none) ∧
          t.others = s.others.set k
            { sched := ⟨o.sched.budget - due - 1, o.sched.clock + due + 1, o.sched.stallPending - due,
                if goesOn then o.sched.ctx else .suspended⟩
              run := .running
              resetReq := if o.position = 0 then .none else o.resetReq
              position := if after.boundary then 0 else o.position + 1
              registers := after.registers })
end

