-- ==== Sys2Proof/Laws/Memory.lean ====
section
/-! SUPPORT. Memory keeps its canonical form: every memory operation of the model, and the small lemmas about listed cells that proofs over memories cite. -/

namespace Sys2Proof.Laws

open Sys2Proof.Machine

/-- The canonical form from an address on is the canonical form from any lower one. -/
theorem wfFrom_mono {lo lo' : Nat} (h : lo' ≤ lo) : ∀ {m : List Host.Cell}, Memory.wfFrom lo m = true →
    Memory.wfFrom lo' m = true
  | [], _ => rfl
  | (k, b) :: rest, hw => by
    simp only [Memory.wfFrom, Bool.and_eq_true, decide_eq_true_eq] at hw ⊢
    exact ⟨⟨⟨by omega, hw.1.1.2⟩, hw.1.2⟩, hw.2⟩

/-- What the canonical form says of its first cell. -/
theorem wfFrom_cons {lo k : Nat} {b : Byte} {rest : List Host.Cell} :
    Memory.wfFrom lo ((k, b) :: rest) = true ↔
      lo ≤ k ∧ k < 65536 ∧ b ≠ Memory.blank ∧ Memory.wfFrom (k + 1) rest = true := by
  simp [Memory.wfFrom, and_assoc]

/-- Below the cells an address reads as blank. -/
theorem read_below {lo a : Nat} (h : a < lo) : ∀ {m : List Host.Cell}, Memory.wfFrom lo m = true →
    Memory.read m a = Memory.blank
  | [], _ => rfl
  | (k, b) :: rest, hw => by
    have := (wfFrom_cons.mp hw).1
    simp [Memory.read, show a < k by omega]

/-- Putting a byte in front of the cells at higher addresses keeps the form. -/
theorem wfFrom_put {lo a : Nat} (v : Byte) {rest : List Host.Cell} (hlo : lo ≤ a) (ha : a < 65536)
    (hr : Memory.wfFrom (a + 1) rest = true) : Memory.wfFrom lo (Memory.put a v rest) = true := by
  unfold Memory.put
  split
  · exact wfFrom_mono (by omega) hr
  · rename_i hv
    exact wfFrom_cons.mpr ⟨hlo, ha, hv, hr⟩

/-- A write keeps the form, from any address on that is not above the one written. -/
theorem wfFrom_write {a : Nat} (v : Byte) (ha : a < 65536) : ∀ {lo : Nat} {m : List Host.Cell}, lo ≤ a →
    Memory.wfFrom lo m = true → Memory.wfFrom lo (Memory.write m a v) = true
  | _, [], hlo, _ => wfFrom_put v hlo ha rfl
  | lo, (k, b) :: rest, hlo, hw => by
    obtain ⟨h1, h2, h3, h4⟩ := wfFrom_cons.mp hw
    simp only [Memory.write]
    split
    · exact wfFrom_put v hlo ha (wfFrom_cons.mpr ⟨by omega, h2, h3, h4⟩)
    · split
      · rename_i _ he
        subst he
        exact wfFrom_put v hlo ha h4
      · exact wfFrom_cons.mpr ⟨h1, h2, h3, wfFrom_write v ha (by omega) h4⟩

/-- A write keeps the canonical form. -/
theorem wf_write {m : List Host.Cell} {a : Nat} (v : Byte) (ha : a < 65536) (h : Memory.wf m = true) :
    Memory.wf (Memory.write m a v) = true := wfFrom_write v ha (Nat.zero_le _) h

/-- A write at a bus address keeps the canonical form. -/
theorem wf_poke (s : State) (a : Word) (v : Byte) (h : Memory.wf s.mem = true) :
    Memory.wf (poke s a v).mem = true := wf_write v a.isLt h

/-- Storing bytes keeps the canonical form. -/
theorem wf_pokeBytes : ∀ (bytes : List Byte) (a : Word) (s : State), Memory.wf s.mem = true →
    Memory.wf (pokeBytes a bytes s).mem = true
  | [], _, _, h => h
  | b :: rest, a, s, h => wf_pokeBytes rest (a + 1) (poke s a b) (wf_poke s a b h)

/-- Placing an instruction keeps the canonical form. -/
theorem wf_withFetchWord (s : State) (nbits w : Nat) (h : Memory.wf s.mem = true) :
    Memory.wf (s.withFetchWord nbits w).mem = true := wf_pokeBytes _ _ _ h

/-- The memory after reset has the canonical form. -/
theorem wf_reset : Memory.wf State.reset.mem = true := rfl

end Sys2Proof.Laws
end

