-- ==== Sys2Proof/Laws/State.lean ====
section
/-! SUPPORT. One lemma per field per named state update, each true by definition, so that no proof unfolds a record update. -/

namespace Sys2Proof.Laws

open Sys2Proof.Machine

/-! ### poke -/

@[simp] theorem poke_a (st : State) (a : Word) (v : Byte) : (poke st a v).a = st.a := rfl
@[simp] theorem poke_x (st : State) (a : Word) (v : Byte) : (poke st a v).x = st.x := rfl
@[simp] theorem poke_y (st : State) (a : Word) (v : Byte) : (poke st a v).y = st.y := rfl
@[simp] theorem poke_s (st : State) (a : Word) (v : Byte) : (poke st a v).s = st.s := rfl
@[simp] theorem poke_p (st : State) (a : Word) (v : Byte) : (poke st a v).p = st.p := rfl
@[simp] theorem poke_pc (st : State) (a : Word) (v : Byte) : (poke st a v).pc = st.pc := rfl
@[simp] theorem poke_ea (st : State) (a : Word) (v : Byte) : (poke st a v).ea = st.ea := rfl
@[simp] theorem poke_ir (st : State) (a : Word) (v : Byte) : (poke st a v).ir = st.ir := rfl
@[simp] theorem poke_opr (st : State) (a : Word) (v : Byte) : (poke st a v).opr = st.opr := rfl
@[simp] theorem poke_nmiLine (st : State) (a : Word) (v : Byte) : (poke st a v).nmiLine = st.nmiLine := rfl
@[simp] theorem poke_irqLines (st : State) (a : Word) (v : Byte) : (poke st a v).irqLines = st.irqLines := rfl
@[simp] theorem poke_nmiPrev (st : State) (a : Word) (v : Byte) : (poke st a v).nmiPrev = st.nmiPrev := rfl
@[simp] theorem poke_nmiPending (st : State) (a : Word) (v : Byte) : (poke st a v).nmiPending = st.nmiPending := rfl
@[simp] theorem poke_intPending (st : State) (a : Word) (v : Byte) : (poke st a v).intPending = st.intPending := rfl
@[simp] theorem poke_intVector (st : State) (a : Word) (v : Byte) : (poke st a v).intVector = st.intVector := rfl
@[simp] theorem poke_suspend (st : State) (a : Word) (v : Byte) : (poke st a v).suspend = st.suspend := rfl
@[simp] theorem poke_run (st : State) (a : Word) (v : Byte) : (poke st a v).run = st.run := rfl
@[simp] theorem poke_resetReq (st : State) (a : Word) (v : Byte) : (poke st a v).resetReq = st.resetReq := rfl
@[simp] theorem poke_position (st : State) (a : Word) (v : Byte) : (poke st a v).position = st.position := rfl
@[simp] theorem poke_latch (st : State) (a : Word) (v : Byte) : (poke st a v).latch = st.latch := rfl
@[simp] theorem poke_sched (st : State) (a : Word) (v : Byte) : (poke st a v).sched = st.sched := rfl
@[simp] theorem poke_active (st : State) (a : Word) (v : Byte) : (poke st a v).active = st.active := rfl
@[simp] theorem poke_others (st : State) (a : Word) (v : Byte) : (poke st a v).others = st.others := rfl
@[simp] theorem poke_mem (st : State) (a : Word) (v : Byte) : (poke st a v).mem = Memory.write st.mem a.toNat v := rfl
@[simp] theorem poke_devices (st : State) (a : Word) (v : Byte) : (poke st a v).devices = st.devices := rfl
@[simp] theorem poke_history (st : State) (a : Word) (v : Byte) : (poke st a v).history = st.history := rfl
@[simp] theorem poke_report (st : State) (a : Word) (v : Byte) : (poke st a v).report = st.report := rfl
@[simp] theorem poke_driver (st : State) (a : Word) (v : Byte) : (poke st a v).driver = st.driver := rfl

/-! ### poll -/

@[simp] theorem poll_a (st : State) : (poll st).a = st.a := rfl
@[simp] theorem poll_x (st : State) : (poll st).x = st.x := rfl
@[simp] theorem poll_y (st : State) : (poll st).y = st.y := rfl
@[simp] theorem poll_s (st : State) : (poll st).s = st.s := rfl
@[simp] theorem poll_p (st : State) : (poll st).p = st.p := rfl
@[simp] theorem poll_pc (st : State) : (poll st).pc = st.pc := rfl
@[simp] theorem poll_ea (st : State) : (poll st).ea = st.ea := rfl
@[simp] theorem poll_ir (st : State) : (poll st).ir = st.ir := rfl
@[simp] theorem poll_opr (st : State) : (poll st).opr = st.opr := rfl
@[simp] theorem poll_nmiLine (st : State) : (poll st).nmiLine = st.nmiLine := rfl
@[simp] theorem poll_irqLines (st : State) : (poll st).irqLines = st.irqLines := rfl
@[simp] theorem poll_nmiPrev (st : State) : (poll st).nmiPrev = st.nmiLine := rfl
@[simp] theorem poll_nmiPending (st : State) : (poll st).nmiPending = (st.nmiPending || (st.nmiLine && !st.nmiPrev)) := rfl
@[simp] theorem poll_intPending (st : State) : (poll st).intPending = ((st.nmiPending || (st.nmiLine && !st.nmiPrev)) || (st.irqLines != 0 && !st.p.i)) := rfl
@[simp] theorem poll_intVector (st : State) : (poll st).intVector = (if st.nmiPending || (st.nmiLine && !st.nmiPrev) then 0xFFFA else 0xFFFE) := rfl
@[simp] theorem poll_suspend (st : State) : (poll st).suspend = st.suspend := rfl
@[simp] theorem poll_run (st : State) : (poll st).run = st.run := rfl
@[simp] theorem poll_resetReq (st : State) : (poll st).resetReq = st.resetReq := rfl
@[simp] theorem poll_position (st : State) : (poll st).position = st.position := rfl
@[simp] theorem poll_latch (st : State) : (poll st).latch = st.latch := rfl
@[simp] theorem poll_sched (st : State) : (poll st).sched = st.sched := rfl
@[simp] theorem poll_active (st : State) : (poll st).active = st.active := rfl
@[simp] theorem poll_others (st : State) : (poll st).others = st.others := rfl
@[simp] theorem poll_mem (st : State) : (poll st).mem = st.mem := rfl
@[simp] theorem poll_devices (st : State) : (poll st).devices = st.devices := rfl
@[simp] theorem poll_history (st : State) : (poll st).history = st.history := rfl
@[simp] theorem poll_report (st : State) : (poll st).report = st.report := rfl
@[simp] theorem poll_driver (st : State) : (poll st).driver = st.driver := rfl

/-! ### stepE -/

@[simp] theorem stepE_a (st : State) : (stepE st).a = st.a := rfl
@[simp] theorem stepE_x (st : State) : (stepE st).x = st.x := rfl
@[simp] theorem stepE_y (st : State) : (stepE st).y = st.y := rfl
@[simp] theorem stepE_s (st : State) : (stepE st).s = st.s := rfl
@[simp] theorem stepE_p (st : State) : (stepE st).p = st.p := rfl
@[simp] theorem stepE_pc (st : State) : (stepE st).pc = st.pc := rfl
@[simp] theorem stepE_ea (st : State) : (stepE st).ea = st.ea := rfl
@[simp] theorem stepE_ir (st : State) : (stepE st).ir = st.ir := rfl
@[simp] theorem stepE_opr (st : State) : (stepE st).opr = st.opr := rfl
@[simp] theorem stepE_nmiLine (st : State) : (stepE st).nmiLine = st.nmiLine := rfl
@[simp] theorem stepE_irqLines (st : State) : (stepE st).irqLines = st.irqLines := rfl
@[simp] theorem stepE_nmiPrev (st : State) : (stepE st).nmiPrev = st.nmiPrev := rfl
@[simp] theorem stepE_nmiPending (st : State) : (stepE st).nmiPending = st.nmiPending := rfl
@[simp] theorem stepE_intPending (st : State) : (stepE st).intPending = st.intPending := rfl
@[simp] theorem stepE_intVector (st : State) : (stepE st).intVector = st.intVector := rfl
@[simp] theorem stepE_suspend (st : State) : (stepE st).suspend = false := rfl
@[simp] theorem stepE_run (st : State) : (stepE st).run = st.run := rfl
@[simp] theorem stepE_resetReq (st : State) : (stepE st).resetReq = st.resetReq := rfl
@[simp] theorem stepE_position (st : State) : (stepE st).position = .boundary := rfl
@[simp] theorem stepE_latch (st : State) : (stepE st).latch = st.latch := rfl
@[simp] theorem stepE_sched (st : State) : (stepE st).sched = st.sched := rfl
@[simp] theorem stepE_active (st : State) : (stepE st).active = st.active := rfl
@[simp] theorem stepE_others (st : State) : (stepE st).others = st.others := rfl
@[simp] theorem stepE_mem (st : State) : (stepE st).mem = st.mem := rfl
@[simp] theorem stepE_devices (st : State) : (stepE st).devices = st.devices := rfl
@[simp] theorem stepE_history (st : State) : (stepE st).history = st.history := rfl
@[simp] theorem stepE_report (st : State) : (stepE st).report = st.report := rfl
@[simp] theorem stepE_driver (st : State) : (stepE st).driver = st.driver := rfl

/-! ### finish -/

@[simp] theorem finish_a (st : State) : (finish st).a = st.a := rfl
@[simp] theorem finish_x (st : State) : (finish st).x = st.x := rfl
@[simp] theorem finish_y (st : State) : (finish st).y = st.y := rfl
@[simp] theorem finish_s (st : State) : (finish st).s = st.s := rfl
@[simp] theorem finish_p (st : State) : (finish st).p = st.p := rfl
@[simp] theorem finish_pc (st : State) : (finish st).pc = st.pc := rfl
@[simp] theorem finish_ea (st : State) : (finish st).ea = st.ea := rfl
@[simp] theorem finish_ir (st : State) : (finish st).ir = st.ir := rfl
@[simp] theorem finish_opr (st : State) : (finish st).opr = st.opr := rfl
@[simp] theorem finish_nmiLine (st : State) : (finish st).nmiLine = st.nmiLine := rfl
@[simp] theorem finish_irqLines (st : State) : (finish st).irqLines = st.irqLines := rfl
@[simp] theorem finish_nmiPrev (st : State) : (finish st).nmiPrev = st.nmiPrev := rfl
@[simp] theorem finish_nmiPending (st : State) : (finish st).nmiPending = st.nmiPending := rfl
@[simp] theorem finish_intPending (st : State) : (finish st).intPending = st.intPending := rfl
@[simp] theorem finish_intVector (st : State) : (finish st).intVector = st.intVector := rfl
@[simp] theorem finish_suspend (st : State) : (finish st).suspend = st.suspend := rfl
@[simp] theorem finish_run (st : State) : (finish st).run = st.run := rfl
@[simp] theorem finish_resetReq (st : State) : (finish st).resetReq = st.resetReq := rfl
@[simp] theorem finish_position (st : State) : (finish st).position = .boundary := rfl
@[simp] theorem finish_latch (st : State) : (finish st).latch = Latches.clear := rfl
@[simp] theorem finish_sched (st : State) : (finish st).sched = st.sched := rfl
@[simp] theorem finish_active (st : State) : (finish st).active = st.active := rfl
@[simp] theorem finish_others (st : State) : (finish st).others = st.others := rfl
@[simp] theorem finish_mem (st : State) : (finish st).mem = st.mem := rfl
@[simp] theorem finish_devices (st : State) : (finish st).devices = st.devices := rfl
@[simp] theorem finish_history (st : State) : (finish st).history = st.history := rfl
@[simp] theorem finish_report (st : State) : (finish st).report = st.report := rfl
@[simp] theorem finish_driver (st : State) : (finish st).driver = st.driver := rfl

/-! ### record -/

@[simp] theorem record_a (st : State) (h : Nat) (x : Txn) (d : Byte) : (record h x d st).a = st.a := rfl
@[simp] theorem record_x (st : State) (h : Nat) (x : Txn) (d : Byte) : (record h x d st).x = st.x := rfl
@[simp] theorem record_y (st : State) (h : Nat) (x : Txn) (d : Byte) : (record h x d st).y = st.y := rfl
@[simp] theorem record_s (st : State) (h : Nat) (x : Txn) (d : Byte) : (record h x d st).s = st.s := rfl
@[simp] theorem record_p (st : State) (h : Nat) (x : Txn) (d : Byte) : (record h x d st).p = st.p := rfl
@[simp] theorem record_pc (st : State) (h : Nat) (x : Txn) (d : Byte) : (record h x d st).pc = st.pc := rfl
@[simp] theorem record_ea (st : State) (h : Nat) (x : Txn) (d : Byte) : (record h x d st).ea = st.ea := rfl
@[simp] theorem record_ir (st : State) (h : Nat) (x : Txn) (d : Byte) : (record h x d st).ir = st.ir := rfl
@[simp] theorem record_opr (st : State) (h : Nat) (x : Txn) (d : Byte) : (record h x d st).opr = st.opr := rfl
@[simp] theorem record_nmiLine (st : State) (h : Nat) (x : Txn) (d : Byte) : (record h x d st).nmiLine = st.nmiLine := rfl
@[simp] theorem record_irqLines (st : State) (h : Nat) (x : Txn) (d : Byte) : (record h x d st).irqLines = st.irqLines := rfl
@[simp] theorem record_nmiPrev (st : State) (h : Nat) (x : Txn) (d : Byte) : (record h x d st).nmiPrev = st.nmiPrev := rfl
@[simp] theorem record_nmiPending (st : State) (h : Nat) (x : Txn) (d : Byte) : (record h x d st).nmiPending = st.nmiPending := rfl
@[simp] theorem record_intPending (st : State) (h : Nat) (x : Txn) (d : Byte) : (record h x d st).intPending = st.intPending := rfl
@[simp] theorem record_intVector (st : State) (h : Nat) (x : Txn) (d : Byte) : (record h x d st).intVector = st.intVector := rfl
@[simp] theorem record_suspend (st : State) (h : Nat) (x : Txn) (d : Byte) : (record h x d st).suspend = st.suspend := rfl
@[simp] theorem record_run (st : State) (h : Nat) (x : Txn) (d : Byte) : (record h x d st).run = st.run := rfl
@[simp] theorem record_resetReq (st : State) (h : Nat) (x : Txn) (d : Byte) : (record h x d st).resetReq = st.resetReq := rfl
@[simp] theorem record_position (st : State) (h : Nat) (x : Txn) (d : Byte) : (record h x d st).position = st.position := rfl
@[simp] theorem record_latch (st : State) (h : Nat) (x : Txn) (d : Byte) : (record h x d st).latch = st.latch := rfl
@[simp] theorem record_sched (st : State) (h : Nat) (x : Txn) (d : Byte) : (record h x d st).sched = st.sched := rfl
@[simp] theorem record_active (st : State) (h : Nat) (x : Txn) (d : Byte) : (record h x d st).active = st.active := rfl
@[simp] theorem record_others (st : State) (h : Nat) (x : Txn) (d : Byte) : (record h x d st).others = st.others := rfl
@[simp] theorem record_mem (st : State) (h : Nat) (x : Txn) (d : Byte) : (record h x d st).mem = st.mem := rfl
@[simp] theorem record_devices (st : State) (h : Nat) (x : Txn) (d : Byte) : (record h x d st).devices = st.devices := rfl
@[simp] theorem record_history (st : State) (h : Nat) (x : Txn) (d : Byte) : (record h x d st).history = ⟨h, ((schedOf h st).map Sched.clock).getD 0, x.dir, x.addr, d⟩ :: st.history := rfl
@[simp] theorem record_report (st : State) (h : Nat) (x : Txn) (d : Byte) : (record h x d st).report = st.report := rfl
@[simp] theorem record_driver (st : State) (h : Nat) (x : Txn) (d : Byte) : (record h x d st).driver = st.driver := rfl

/-! ### stop -/

@[simp] theorem stop_a (st : State) (r : Status) : (stop r st).a = st.a := rfl
@[simp] theorem stop_x (st : State) (r : Status) : (stop r st).x = st.x := rfl
@[simp] theorem stop_y (st : State) (r : Status) : (stop r st).y = st.y := rfl
@[simp] theorem stop_s (st : State) (r : Status) : (stop r st).s = st.s := rfl
@[simp] theorem stop_p (st : State) (r : Status) : (stop r st).p = st.p := rfl
@[simp] theorem stop_pc (st : State) (r : Status) : (stop r st).pc = st.pc := rfl
@[simp] theorem stop_ea (st : State) (r : Status) : (stop r st).ea = st.ea := rfl
@[simp] theorem stop_ir (st : State) (r : Status) : (stop r st).ir = st.ir := rfl
@[simp] theorem stop_opr (st : State) (r : Status) : (stop r st).opr = st.opr := rfl
@[simp] theorem stop_nmiLine (st : State) (r : Status) : (stop r st).nmiLine = st.nmiLine := rfl
@[simp] theorem stop_irqLines (st : State) (r : Status) : (stop r st).irqLines = st.irqLines := rfl
@[simp] theorem stop_nmiPrev (st : State) (r : Status) : (stop r st).nmiPrev = st.nmiPrev := rfl
@[simp] theorem stop_nmiPending (st : State) (r : Status) : (stop r st).nmiPending = st.nmiPending := rfl
@[simp] theorem stop_intPending (st : State) (r : Status) : (stop r st).intPending = st.intPending := rfl
@[simp] theorem stop_intVector (st : State) (r : Status) : (stop r st).intVector = st.intVector := rfl
@[simp] theorem stop_suspend (st : State) (r : Status) : (stop r st).suspend = st.suspend := rfl
@[simp] theorem stop_run (st : State) (r : Status) : (stop r st).run = st.run := rfl
@[simp] theorem stop_resetReq (st : State) (r : Status) : (stop r st).resetReq = st.resetReq := rfl
@[simp] theorem stop_position (st : State) (r : Status) : (stop r st).position = st.position := rfl
@[simp] theorem stop_latch (st : State) (r : Status) : (stop r st).latch = st.latch := rfl
@[simp] theorem stop_sched (st : State) (r : Status) : (stop r st).sched = { st.sched with ctx := .suspended } := rfl
@[simp] theorem stop_active (st : State) (r : Status) : (stop r st).active = none := rfl
@[simp] theorem stop_others (st : State) (r : Status) : (stop r st).others = st.others := rfl
@[simp] theorem stop_mem (st : State) (r : Status) : (stop r st).mem = st.mem := rfl
@[simp] theorem stop_devices (st : State) (r : Status) : (stop r st).devices = st.devices := rfl
@[simp] theorem stop_history (st : State) (r : Status) : (stop r st).history = st.history := rfl
@[simp] theorem stop_report (st : State) (r : Status) : (stop r st).report = some ⟨0, r, st.sched.budget⟩ := rfl
@[simp] theorem stop_driver (st : State) (r : Status) : (stop r st).driver = st.driver := rfl

/-! ### setPcl -/

@[simp] theorem setPcl_a (st : State) (v : Byte) : (setPcl v st).a = st.a := rfl
@[simp] theorem setPcl_x (st : State) (v : Byte) : (setPcl v st).x = st.x := rfl
@[simp] theorem setPcl_y (st : State) (v : Byte) : (setPcl v st).y = st.y := rfl
@[simp] theorem setPcl_s (st : State) (v : Byte) : (setPcl v st).s = st.s := rfl
@[simp] theorem setPcl_p (st : State) (v : Byte) : (setPcl v st).p = st.p := rfl
@[simp] theorem setPcl_pc (st : State) (v : Byte) : (setPcl v st).pc = writeLo st.pc v := rfl
@[simp] theorem setPcl_ea (st : State) (v : Byte) : (setPcl v st).ea = st.ea := rfl
@[simp] theorem setPcl_ir (st : State) (v : Byte) : (setPcl v st).ir = st.ir := rfl
@[simp] theorem setPcl_opr (st : State) (v : Byte) : (setPcl v st).opr = st.opr := rfl
@[simp] theorem setPcl_nmiLine (st : State) (v : Byte) : (setPcl v st).nmiLine = st.nmiLine := rfl
@[simp] theorem setPcl_irqLines (st : State) (v : Byte) : (setPcl v st).irqLines = st.irqLines := rfl
@[simp] theorem setPcl_nmiPrev (st : State) (v : Byte) : (setPcl v st).nmiPrev = st.nmiPrev := rfl
@[simp] theorem setPcl_nmiPending (st : State) (v : Byte) : (setPcl v st).nmiPending = st.nmiPending := rfl
@[simp] theorem setPcl_intPending (st : State) (v : Byte) : (setPcl v st).intPending = st.intPending := rfl
@[simp] theorem setPcl_intVector (st : State) (v : Byte) : (setPcl v st).intVector = st.intVector := rfl
@[simp] theorem setPcl_suspend (st : State) (v : Byte) : (setPcl v st).suspend = st.suspend := rfl
@[simp] theorem setPcl_run (st : State) (v : Byte) : (setPcl v st).run = st.run := rfl
@[simp] theorem setPcl_resetReq (st : State) (v : Byte) : (setPcl v st).resetReq = st.resetReq := rfl
@[simp] theorem setPcl_position (st : State) (v : Byte) : (setPcl v st).position = st.position := rfl
@[simp] theorem setPcl_latch (st : State) (v : Byte) : (setPcl v st).latch = st.latch := rfl
@[simp] theorem setPcl_sched (st : State) (v : Byte) : (setPcl v st).sched = st.sched := rfl
@[simp] theorem setPcl_active (st : State) (v : Byte) : (setPcl v st).active = st.active := rfl
@[simp] theorem setPcl_others (st : State) (v : Byte) : (setPcl v st).others = st.others := rfl
@[simp] theorem setPcl_mem (st : State) (v : Byte) : (setPcl v st).mem = st.mem := rfl
@[simp] theorem setPcl_devices (st : State) (v : Byte) : (setPcl v st).devices = st.devices := rfl
@[simp] theorem setPcl_history (st : State) (v : Byte) : (setPcl v st).history = st.history := rfl
@[simp] theorem setPcl_report (st : State) (v : Byte) : (setPcl v st).report = st.report := rfl
@[simp] theorem setPcl_driver (st : State) (v : Byte) : (setPcl v st).driver = st.driver := rfl

/-! ### setPch -/

@[simp] theorem setPch_a (st : State) (v : Byte) : (setPch v st).a = st.a := rfl
@[simp] theorem setPch_x (st : State) (v : Byte) : (setPch v st).x = st.x := rfl
@[simp] theorem setPch_y (st : State) (v : Byte) : (setPch v st).y = st.y := rfl
@[simp] theorem setPch_s (st : State) (v : Byte) : (setPch v st).s = st.s := rfl
@[simp] theorem setPch_p (st : State) (v : Byte) : (setPch v st).p = st.p := rfl
@[simp] theorem setPch_pc (st : State) (v : Byte) : (setPch v st).pc = writeHi st.pc v := rfl
@[simp] theorem setPch_ea (st : State) (v : Byte) : (setPch v st).ea = st.ea := rfl
@[simp] theorem setPch_ir (st : State) (v : Byte) : (setPch v st).ir = st.ir := rfl
@[simp] theorem setPch_opr (st : State) (v : Byte) : (setPch v st).opr = st.opr := rfl
@[simp] theorem setPch_nmiLine (st : State) (v : Byte) : (setPch v st).nmiLine = st.nmiLine := rfl
@[simp] theorem setPch_irqLines (st : State) (v : Byte) : (setPch v st).irqLines = st.irqLines := rfl
@[simp] theorem setPch_nmiPrev (st : State) (v : Byte) : (setPch v st).nmiPrev = st.nmiPrev := rfl
@[simp] theorem setPch_nmiPending (st : State) (v : Byte) : (setPch v st).nmiPending = st.nmiPending := rfl
@[simp] theorem setPch_intPending (st : State) (v : Byte) : (setPch v st).intPending = st.intPending := rfl
@[simp] theorem setPch_intVector (st : State) (v : Byte) : (setPch v st).intVector = st.intVector := rfl
@[simp] theorem setPch_suspend (st : State) (v : Byte) : (setPch v st).suspend = st.suspend := rfl
@[simp] theorem setPch_run (st : State) (v : Byte) : (setPch v st).run = st.run := rfl
@[simp] theorem setPch_resetReq (st : State) (v : Byte) : (setPch v st).resetReq = st.resetReq := rfl
@[simp] theorem setPch_position (st : State) (v : Byte) : (setPch v st).position = st.position := rfl
@[simp] theorem setPch_latch (st : State) (v : Byte) : (setPch v st).latch = st.latch := rfl
@[simp] theorem setPch_sched (st : State) (v : Byte) : (setPch v st).sched = st.sched := rfl
@[simp] theorem setPch_active (st : State) (v : Byte) : (setPch v st).active = st.active := rfl
@[simp] theorem setPch_others (st : State) (v : Byte) : (setPch v st).others = st.others := rfl
@[simp] theorem setPch_mem (st : State) (v : Byte) : (setPch v st).mem = st.mem := rfl
@[simp] theorem setPch_devices (st : State) (v : Byte) : (setPch v st).devices = st.devices := rfl
@[simp] theorem setPch_history (st : State) (v : Byte) : (setPch v st).history = st.history := rfl
@[simp] theorem setPch_report (st : State) (v : Byte) : (setPch v st).report = st.report := rfl
@[simp] theorem setPch_driver (st : State) (v : Byte) : (setPch v st).driver = st.driver := rfl

/-! ### setI -/

@[simp] theorem setI_a (st : State) : (setI st).a = st.a := rfl
@[simp] theorem setI_x (st : State) : (setI st).x = st.x := rfl
@[simp] theorem setI_y (st : State) : (setI st).y = st.y := rfl
@[simp] theorem setI_s (st : State) : (setI st).s = st.s := rfl
@[simp] theorem setI_p (st : State) : (setI st).p = { st.p with i := true } := rfl
@[simp] theorem setI_pc (st : State) : (setI st).pc = st.pc := rfl
@[simp] theorem setI_ea (st : State) : (setI st).ea = st.ea := rfl
@[simp] theorem setI_ir (st : State) : (setI st).ir = st.ir := rfl
@[simp] theorem setI_opr (st : State) : (setI st).opr = st.opr := rfl
@[simp] theorem setI_nmiLine (st : State) : (setI st).nmiLine = st.nmiLine := rfl
@[simp] theorem setI_irqLines (st : State) : (setI st).irqLines = st.irqLines := rfl
@[simp] theorem setI_nmiPrev (st : State) : (setI st).nmiPrev = st.nmiPrev := rfl
@[simp] theorem setI_nmiPending (st : State) : (setI st).nmiPending = st.nmiPending := rfl
@[simp] theorem setI_intPending (st : State) : (setI st).intPending = st.intPending := rfl
@[simp] theorem setI_intVector (st : State) : (setI st).intVector = st.intVector := rfl
@[simp] theorem setI_suspend (st : State) : (setI st).suspend = st.suspend := rfl
@[simp] theorem setI_run (st : State) : (setI st).run = st.run := rfl
@[simp] theorem setI_resetReq (st : State) : (setI st).resetReq = st.resetReq := rfl
@[simp] theorem setI_position (st : State) : (setI st).position = st.position := rfl
@[simp] theorem setI_latch (st : State) : (setI st).latch = st.latch := rfl
@[simp] theorem setI_sched (st : State) : (setI st).sched = st.sched := rfl
@[simp] theorem setI_active (st : State) : (setI st).active = st.active := rfl
@[simp] theorem setI_others (st : State) : (setI st).others = st.others := rfl
@[simp] theorem setI_mem (st : State) : (setI st).mem = st.mem := rfl
@[simp] theorem setI_devices (st : State) : (setI st).devices = st.devices := rfl
@[simp] theorem setI_history (st : State) : (setI st).history = st.history := rfl
@[simp] theorem setI_report (st : State) : (setI st).report = st.report := rfl
@[simp] theorem setI_driver (st : State) : (setI st).driver = st.driver := rfl

/-! ### entryStart -/

@[simp] theorem entryStart_a (st : State) : (entryStart st).a = st.a := rfl
@[simp] theorem entryStart_x (st : State) : (entryStart st).x = st.x := rfl
@[simp] theorem entryStart_y (st : State) : (entryStart st).y = st.y := rfl
@[simp] theorem entryStart_s (st : State) : (entryStart st).s = st.s := rfl
@[simp] theorem entryStart_p (st : State) : (entryStart st).p = st.p := rfl
@[simp] theorem entryStart_pc (st : State) : (entryStart st).pc = st.pc := rfl
@[simp] theorem entryStart_ea (st : State) : (entryStart st).ea = st.ea := rfl
@[simp] theorem entryStart_ir (st : State) : (entryStart st).ir = st.ir := rfl
@[simp] theorem entryStart_opr (st : State) : (entryStart st).opr = st.opr := rfl
@[simp] theorem entryStart_nmiLine (st : State) : (entryStart st).nmiLine = st.nmiLine := rfl
@[simp] theorem entryStart_irqLines (st : State) : (entryStart st).irqLines = st.irqLines := rfl
@[simp] theorem entryStart_nmiPrev (st : State) : (entryStart st).nmiPrev = st.nmiPrev := rfl
@[simp] theorem entryStart_nmiPending (st : State) : (entryStart st).nmiPending = (st.nmiPending && st.intVector != 0xFFFA) := rfl
@[simp] theorem entryStart_intPending (st : State) : (entryStart st).intPending = st.intPending := rfl
@[simp] theorem entryStart_intVector (st : State) : (entryStart st).intVector = st.intVector := rfl
@[simp] theorem entryStart_suspend (st : State) : (entryStart st).suspend = st.suspend := rfl
@[simp] theorem entryStart_run (st : State) : (entryStart st).run = st.run := rfl
@[simp] theorem entryStart_resetReq (st : State) : (entryStart st).resetReq = st.resetReq := rfl
@[simp] theorem entryStart_position (st : State) : (entryStart st).position = st.position := rfl
@[simp] theorem entryStart_latch (st : State) : (entryStart st).latch = { st.latch with vec := st.intVector } := rfl
@[simp] theorem entryStart_sched (st : State) : (entryStart st).sched = st.sched := rfl
@[simp] theorem entryStart_active (st : State) : (entryStart st).active = st.active := rfl
@[simp] theorem entryStart_others (st : State) : (entryStart st).others = st.others := rfl
@[simp] theorem entryStart_mem (st : State) : (entryStart st).mem = st.mem := rfl
@[simp] theorem entryStart_devices (st : State) : (entryStart st).devices = st.devices := rfl
@[simp] theorem entryStart_history (st : State) : (entryStart st).history = st.history := rfl
@[simp] theorem entryStart_report (st : State) : (entryStart st).report = st.report := rfl
@[simp] theorem entryStart_driver (st : State) : (entryStart st).driver = st.driver := rfl

/-! ### resetStart -/

@[simp] theorem resetStart_a (st : State) : (resetStart st).a = st.a := rfl
@[simp] theorem resetStart_x (st : State) : (resetStart st).x = st.x := rfl
@[simp] theorem resetStart_y (st : State) : (resetStart st).y = st.y := rfl
@[simp] theorem resetStart_s (st : State) : (resetStart st).s = st.s := rfl
@[simp] theorem resetStart_p (st : State) : (resetStart st).p = st.p := rfl
@[simp] theorem resetStart_pc (st : State) : (resetStart st).pc = st.pc := rfl
@[simp] theorem resetStart_ea (st : State) : (resetStart st).ea = st.ea := rfl
@[simp] theorem resetStart_ir (st : State) : (resetStart st).ir = st.ir := rfl
@[simp] theorem resetStart_opr (st : State) : (resetStart st).opr = st.opr := rfl
@[simp] theorem resetStart_nmiLine (st : State) : (resetStart st).nmiLine = st.nmiLine := rfl
@[simp] theorem resetStart_irqLines (st : State) : (resetStart st).irqLines = st.irqLines := rfl
@[simp] theorem resetStart_nmiPrev (st : State) : (resetStart st).nmiPrev = st.nmiPrev := rfl
@[simp] theorem resetStart_nmiPending (st : State) : (resetStart st).nmiPending = st.nmiPending := rfl
@[simp] theorem resetStart_intPending (st : State) : (resetStart st).intPending = st.intPending := rfl
@[simp] theorem resetStart_intVector (st : State) : (resetStart st).intVector = st.intVector := rfl
@[simp] theorem resetStart_suspend (st : State) : (resetStart st).suspend = false := rfl
@[simp] theorem resetStart_run (st : State) : (resetStart st).run = st.run := rfl
@[simp] theorem resetStart_resetReq (st : State) : (resetStart st).resetReq = .none := rfl
@[simp] theorem resetStart_position (st : State) : (resetStart st).position = st.position := rfl
@[simp] theorem resetStart_latch (st : State) : (resetStart st).latch = st.latch := rfl
@[simp] theorem resetStart_sched (st : State) : (resetStart st).sched = st.sched := rfl
@[simp] theorem resetStart_active (st : State) : (resetStart st).active = st.active := rfl
@[simp] theorem resetStart_others (st : State) : (resetStart st).others = st.others := rfl
@[simp] theorem resetStart_mem (st : State) : (resetStart st).mem = st.mem := rfl
@[simp] theorem resetStart_devices (st : State) : (resetStart st).devices = st.devices := rfl
@[simp] theorem resetStart_history (st : State) : (resetStart st).history = st.history := rfl
@[simp] theorem resetStart_report (st : State) : (resetStart st).report = st.report := rfl
@[simp] theorem resetStart_driver (st : State) : (resetStart st).driver = st.driver := rfl

/-! ### latchOpcode -/

@[simp] theorem latchOpcode_a (st : State) (d : Byte) : (latchOpcode d st).a = st.a := rfl
@[simp] theorem latchOpcode_x (st : State) (d : Byte) : (latchOpcode d st).x = st.x := rfl
@[simp] theorem latchOpcode_y (st : State) (d : Byte) : (latchOpcode d st).y = st.y := rfl
@[simp] theorem latchOpcode_s (st : State) (d : Byte) : (latchOpcode d st).s = st.s := rfl
@[simp] theorem latchOpcode_p (st : State) (d : Byte) : (latchOpcode d st).p = st.p := rfl
@[simp] theorem latchOpcode_pc (st : State) (d : Byte) : (latchOpcode d st).pc = st.pc + 1 := rfl
@[simp] theorem latchOpcode_ea (st : State) (d : Byte) : (latchOpcode d st).ea = st.ea := rfl
@[simp] theorem latchOpcode_ir (st : State) (d : Byte) : (latchOpcode d st).ir = d := rfl
@[simp] theorem latchOpcode_opr (st : State) (d : Byte) : (latchOpcode d st).opr = st.opr := rfl
@[simp] theorem latchOpcode_nmiLine (st : State) (d : Byte) : (latchOpcode d st).nmiLine = st.nmiLine := rfl
@[simp] theorem latchOpcode_irqLines (st : State) (d : Byte) : (latchOpcode d st).irqLines = st.irqLines := rfl
@[simp] theorem latchOpcode_nmiPrev (st : State) (d : Byte) : (latchOpcode d st).nmiPrev = st.nmiPrev := rfl
@[simp] theorem latchOpcode_nmiPending (st : State) (d : Byte) : (latchOpcode d st).nmiPending = st.nmiPending := rfl
@[simp] theorem latchOpcode_intPending (st : State) (d : Byte) : (latchOpcode d st).intPending = st.intPending := rfl
@[simp] theorem latchOpcode_intVector (st : State) (d : Byte) : (latchOpcode d st).intVector = st.intVector := rfl
@[simp] theorem latchOpcode_suspend (st : State) (d : Byte) : (latchOpcode d st).suspend = false := rfl
@[simp] theorem latchOpcode_run (st : State) (d : Byte) : (latchOpcode d st).run = st.run := rfl
@[simp] theorem latchOpcode_resetReq (st : State) (d : Byte) : (latchOpcode d st).resetReq = st.resetReq := rfl
@[simp] theorem latchOpcode_position (st : State) (d : Byte) : (latchOpcode d st).position = .boundary := rfl
@[simp] theorem latchOpcode_latch (st : State) (d : Byte) : (latchOpcode d st).latch = st.latch := rfl
@[simp] theorem latchOpcode_sched (st : State) (d : Byte) : (latchOpcode d st).sched = st.sched := rfl
@[simp] theorem latchOpcode_active (st : State) (d : Byte) : (latchOpcode d st).active = st.active := rfl
@[simp] theorem latchOpcode_others (st : State) (d : Byte) : (latchOpcode d st).others = st.others := rfl
@[simp] theorem latchOpcode_mem (st : State) (d : Byte) : (latchOpcode d st).mem = st.mem := rfl
@[simp] theorem latchOpcode_devices (st : State) (d : Byte) : (latchOpcode d st).devices = st.devices := rfl
@[simp] theorem latchOpcode_history (st : State) (d : Byte) : (latchOpcode d st).history = st.history := rfl
@[simp] theorem latchOpcode_report (st : State) (d : Byte) : (latchOpcode d st).report = st.report := rfl
@[simp] theorem latchOpcode_driver (st : State) (d : Byte) : (latchOpcode d st).driver = st.driver := rfl

/-! ### updateSched_core -/

@[simp] theorem updateSched_core_a (st : State) (f : Sched → Sched) : (updateSched 0 f st).a = st.a := rfl
@[simp] theorem updateSched_core_x (st : State) (f : Sched → Sched) : (updateSched 0 f st).x = st.x := rfl
@[simp] theorem updateSched_core_y (st : State) (f : Sched → Sched) : (updateSched 0 f st).y = st.y := rfl
@[simp] theorem updateSched_core_s (st : State) (f : Sched → Sched) : (updateSched 0 f st).s = st.s := rfl
@[simp] theorem updateSched_core_p (st : State) (f : Sched → Sched) : (updateSched 0 f st).p = st.p := rfl
@[simp] theorem updateSched_core_pc (st : State) (f : Sched → Sched) : (updateSched 0 f st).pc = st.pc := rfl
@[simp] theorem updateSched_core_ea (st : State) (f : Sched → Sched) : (updateSched 0 f st).ea = st.ea := rfl
@[simp] theorem updateSched_core_ir (st : State) (f : Sched → Sched) : (updateSched 0 f st).ir = st.ir := rfl
@[simp] theorem updateSched_core_opr (st : State) (f : Sched → Sched) : (updateSched 0 f st).opr = st.opr := rfl
@[simp] theorem updateSched_core_nmiLine (st : State) (f : Sched → Sched) : (updateSched 0 f st).nmiLine = st.nmiLine := rfl
@[simp] theorem updateSched_core_irqLines (st : State) (f : Sched → Sched) : (updateSched 0 f st).irqLines = st.irqLines := rfl
@[simp] theorem updateSched_core_nmiPrev (st : State) (f : Sched → Sched) : (updateSched 0 f st).nmiPrev = st.nmiPrev := rfl
@[simp] theorem updateSched_core_nmiPending (st : State) (f : Sched → Sched) : (updateSched 0 f st).nmiPending = st.nmiPending := rfl
@[simp] theorem updateSched_core_intPending (st : State) (f : Sched → Sched) : (updateSched 0 f st).intPending = st.intPending := rfl
@[simp] theorem updateSched_core_intVector (st : State) (f : Sched → Sched) : (updateSched 0 f st).intVector = st.intVector := rfl
@[simp] theorem updateSched_core_suspend (st : State) (f : Sched → Sched) : (updateSched 0 f st).suspend = st.suspend := rfl
@[simp] theorem updateSched_core_run (st : State) (f : Sched → Sched) : (updateSched 0 f st).run = st.run := rfl
@[simp] theorem updateSched_core_resetReq (st : State) (f : Sched → Sched) : (updateSched 0 f st).resetReq = st.resetReq := rfl
@[simp] theorem updateSched_core_position (st : State) (f : Sched → Sched) : (updateSched 0 f st).position = st.position := rfl
@[simp] theorem updateSched_core_latch (st : State) (f : Sched → Sched) : (updateSched 0 f st).latch = st.latch := rfl
@[simp] theorem updateSched_core_sched (st : State) (f : Sched → Sched) : (updateSched 0 f st).sched = f st.sched := rfl
@[simp] theorem updateSched_core_active (st : State) (f : Sched → Sched) : (updateSched 0 f st).active = st.active := rfl
@[simp] theorem updateSched_core_others (st : State) (f : Sched → Sched) : (updateSched 0 f st).others = st.others := rfl
@[simp] theorem updateSched_core_mem (st : State) (f : Sched → Sched) : (updateSched 0 f st).mem = st.mem := rfl
@[simp] theorem updateSched_core_devices (st : State) (f : Sched → Sched) : (updateSched 0 f st).devices = st.devices := rfl
@[simp] theorem updateSched_core_history (st : State) (f : Sched → Sched) : (updateSched 0 f st).history = st.history := rfl
@[simp] theorem updateSched_core_report (st : State) (f : Sched → Sched) : (updateSched 0 f st).report = st.report := rfl
@[simp] theorem updateSched_core_driver (st : State) (f : Sched → Sched) : (updateSched 0 f st).driver = st.driver := rfl

/-! ### updateSched_other -/

@[simp] theorem updateSched_other_a (st : State) (k : Nat) (f : Sched → Sched) : (updateSched (k + 1) f st).a = st.a := rfl
@[simp] theorem updateSched_other_x (st : State) (k : Nat) (f : Sched → Sched) : (updateSched (k + 1) f st).x = st.x := rfl
@[simp] theorem updateSched_other_y (st : State) (k : Nat) (f : Sched → Sched) : (updateSched (k + 1) f st).y = st.y := rfl
@[simp] theorem updateSched_other_s (st : State) (k : Nat) (f : Sched → Sched) : (updateSched (k + 1) f st).s = st.s := rfl
@[simp] theorem updateSched_other_p (st : State) (k : Nat) (f : Sched → Sched) : (updateSched (k + 1) f st).p = st.p := rfl
@[simp] theorem updateSched_other_pc (st : State) (k : Nat) (f : Sched → Sched) : (updateSched (k + 1) f st).pc = st.pc := rfl
@[simp] theorem updateSched_other_ea (st : State) (k : Nat) (f : Sched → Sched) : (updateSched (k + 1) f st).ea = st.ea := rfl
@[simp] theorem updateSched_other_ir (st : State) (k : Nat) (f : Sched → Sched) : (updateSched (k + 1) f st).ir = st.ir := rfl
@[simp] theorem updateSched_other_opr (st : State) (k : Nat) (f : Sched → Sched) : (updateSched (k + 1) f st).opr = st.opr := rfl
@[simp] theorem updateSched_other_nmiLine (st : State) (k : Nat) (f : Sched → Sched) : (updateSched (k + 1) f st).nmiLine = st.nmiLine := rfl
@[simp] theorem updateSched_other_irqLines (st : State) (k : Nat) (f : Sched → Sched) : (updateSched (k + 1) f st).irqLines = st.irqLines := rfl
@[simp] theorem updateSched_other_nmiPrev (st : State) (k : Nat) (f : Sched → Sched) : (updateSched (k + 1) f st).nmiPrev = st.nmiPrev := rfl
@[simp] theorem updateSched_other_nmiPending (st : State) (k : Nat) (f : Sched → Sched) : (updateSched (k + 1) f st).nmiPending = st.nmiPending := rfl
@[simp] theorem updateSched_other_intPending (st : State) (k : Nat) (f : Sched → Sched) : (updateSched (k + 1) f st).intPending = st.intPending := rfl
@[simp] theorem updateSched_other_intVector (st : State) (k : Nat) (f : Sched → Sched) : (updateSched (k + 1) f st).intVector = st.intVector := rfl
@[simp] theorem updateSched_other_suspend (st : State) (k : Nat) (f : Sched → Sched) : (updateSched (k + 1) f st).suspend = st.suspend := rfl
@[simp] theorem updateSched_other_run (st : State) (k : Nat) (f : Sched → Sched) : (updateSched (k + 1) f st).run = st.run := rfl
@[simp] theorem updateSched_other_resetReq (st : State) (k : Nat) (f : Sched → Sched) : (updateSched (k + 1) f st).resetReq = st.resetReq := rfl
@[simp] theorem updateSched_other_position (st : State) (k : Nat) (f : Sched → Sched) : (updateSched (k + 1) f st).position = st.position := rfl
@[simp] theorem updateSched_other_latch (st : State) (k : Nat) (f : Sched → Sched) : (updateSched (k + 1) f st).latch = st.latch := rfl
@[simp] theorem updateSched_other_sched (st : State) (k : Nat) (f : Sched → Sched) : (updateSched (k + 1) f st).sched = st.sched := rfl
@[simp] theorem updateSched_other_active (st : State) (k : Nat) (f : Sched → Sched) : (updateSched (k + 1) f st).active = st.active := rfl
@[simp] theorem updateSched_other_others (st : State) (k : Nat) (f : Sched → Sched) : (updateSched (k + 1) f st).others = st.others.modify k fun o => { o with sched := f o.sched } := rfl
@[simp] theorem updateSched_other_mem (st : State) (k : Nat) (f : Sched → Sched) : (updateSched (k + 1) f st).mem = st.mem := rfl
@[simp] theorem updateSched_other_devices (st : State) (k : Nat) (f : Sched → Sched) : (updateSched (k + 1) f st).devices = st.devices := rfl
@[simp] theorem updateSched_other_history (st : State) (k : Nat) (f : Sched → Sched) : (updateSched (k + 1) f st).history = st.history := rfl
@[simp] theorem updateSched_other_report (st : State) (k : Nat) (f : Sched → Sched) : (updateSched (k + 1) f st).report = st.report := rfl
@[simp] theorem updateSched_other_driver (st : State) (k : Nat) (f : Sched → Sched) : (updateSched (k + 1) f st).driver = st.driver := rfl

/-! ### updateOther -/

@[simp] theorem updateOther_a (st : State) (k : Nat) (f : OtherContext → OtherContext) : (updateOther k f st).a = st.a := rfl
@[simp] theorem updateOther_x (st : State) (k : Nat) (f : OtherContext → OtherContext) : (updateOther k f st).x = st.x := rfl
@[simp] theorem updateOther_y (st : State) (k : Nat) (f : OtherContext → OtherContext) : (updateOther k f st).y = st.y := rfl
@[simp] theorem updateOther_s (st : State) (k : Nat) (f : OtherContext → OtherContext) : (updateOther k f st).s = st.s := rfl
@[simp] theorem updateOther_p (st : State) (k : Nat) (f : OtherContext → OtherContext) : (updateOther k f st).p = st.p := rfl
@[simp] theorem updateOther_pc (st : State) (k : Nat) (f : OtherContext → OtherContext) : (updateOther k f st).pc = st.pc := rfl
@[simp] theorem updateOther_ea (st : State) (k : Nat) (f : OtherContext → OtherContext) : (updateOther k f st).ea = st.ea := rfl
@[simp] theorem updateOther_ir (st : State) (k : Nat) (f : OtherContext → OtherContext) : (updateOther k f st).ir = st.ir := rfl
@[simp] theorem updateOther_opr (st : State) (k : Nat) (f : OtherContext → OtherContext) : (updateOther k f st).opr = st.opr := rfl
@[simp] theorem updateOther_nmiLine (st : State) (k : Nat) (f : OtherContext → OtherContext) : (updateOther k f st).nmiLine = st.nmiLine := rfl
@[simp] theorem updateOther_irqLines (st : State) (k : Nat) (f : OtherContext → OtherContext) : (updateOther k f st).irqLines = st.irqLines := rfl
@[simp] theorem updateOther_nmiPrev (st : State) (k : Nat) (f : OtherContext → OtherContext) : (updateOther k f st).nmiPrev = st.nmiPrev := rfl
@[simp] theorem updateOther_nmiPending (st : State) (k : Nat) (f : OtherContext → OtherContext) : (updateOther k f st).nmiPending = st.nmiPending := rfl
@[simp] theorem updateOther_intPending (st : State) (k : Nat) (f : OtherContext → OtherContext) : (updateOther k f st).intPending = st.intPending := rfl
@[simp] theorem updateOther_intVector (st : State) (k : Nat) (f : OtherContext → OtherContext) : (updateOther k f st).intVector = st.intVector := rfl
@[simp] theorem updateOther_suspend (st : State) (k : Nat) (f : OtherContext → OtherContext) : (updateOther k f st).suspend = st.suspend := rfl
@[simp] theorem updateOther_run (st : State) (k : Nat) (f : OtherContext → OtherContext) : (updateOther k f st).run = st.run := rfl
@[simp] theorem updateOther_resetReq (st : State) (k : Nat) (f : OtherContext → OtherContext) : (updateOther k f st).resetReq = st.resetReq := rfl
@[simp] theorem updateOther_position (st : State) (k : Nat) (f : OtherContext → OtherContext) : (updateOther k f st).position = st.position := rfl
@[simp] theorem updateOther_latch (st : State) (k : Nat) (f : OtherContext → OtherContext) : (updateOther k f st).latch = st.latch := rfl
@[simp] theorem updateOther_sched (st : State) (k : Nat) (f : OtherContext → OtherContext) : (updateOther k f st).sched = st.sched := rfl
@[simp] theorem updateOther_active (st : State) (k : Nat) (f : OtherContext → OtherContext) : (updateOther k f st).active = st.active := rfl
@[simp] theorem updateOther_others (st : State) (k : Nat) (f : OtherContext → OtherContext) : (updateOther k f st).others = st.others.modify k f := rfl
@[simp] theorem updateOther_mem (st : State) (k : Nat) (f : OtherContext → OtherContext) : (updateOther k f st).mem = st.mem := rfl
@[simp] theorem updateOther_devices (st : State) (k : Nat) (f : OtherContext → OtherContext) : (updateOther k f st).devices = st.devices := rfl
@[simp] theorem updateOther_history (st : State) (k : Nat) (f : OtherContext → OtherContext) : (updateOther k f st).history = st.history := rfl
@[simp] theorem updateOther_report (st : State) (k : Nat) (f : OtherContext → OtherContext) : (updateOther k f st).report = st.report := rfl
@[simp] theorem updateOther_driver (st : State) (k : Nat) (f : OtherContext → OtherContext) : (updateOther k f st).driver = st.driver := rfl

/-! ### activate_core -/

@[simp] theorem activate_core_a (st : State) : (activate 0 st).a = st.a := rfl
@[simp] theorem activate_core_x (st : State) : (activate 0 st).x = st.x := rfl
@[simp] theorem activate_core_y (st : State) : (activate 0 st).y = st.y := rfl
@[simp] theorem activate_core_s (st : State) : (activate 0 st).s = st.s := rfl
@[simp] theorem activate_core_p (st : State) : (activate 0 st).p = st.p := rfl
@[simp] theorem activate_core_pc (st : State) : (activate 0 st).pc = st.pc := rfl
@[simp] theorem activate_core_ea (st : State) : (activate 0 st).ea = st.ea := rfl
@[simp] theorem activate_core_ir (st : State) : (activate 0 st).ir = st.ir := rfl
@[simp] theorem activate_core_opr (st : State) : (activate 0 st).opr = st.opr := rfl
@[simp] theorem activate_core_nmiLine (st : State) : (activate 0 st).nmiLine = st.nmiLine := rfl
@[simp] theorem activate_core_irqLines (st : State) : (activate 0 st).irqLines = st.irqLines := rfl
@[simp] theorem activate_core_nmiPrev (st : State) : (activate 0 st).nmiPrev = st.nmiPrev := rfl
@[simp] theorem activate_core_nmiPending (st : State) : (activate 0 st).nmiPending = st.nmiPending := rfl
@[simp] theorem activate_core_intPending (st : State) : (activate 0 st).intPending = st.intPending := rfl
@[simp] theorem activate_core_intVector (st : State) : (activate 0 st).intVector = st.intVector := rfl
@[simp] theorem activate_core_suspend (st : State) : (activate 0 st).suspend = st.suspend := rfl
@[simp] theorem activate_core_run (st : State) : (activate 0 st).run = st.run := rfl
@[simp] theorem activate_core_resetReq (st : State) : (activate 0 st).resetReq = st.resetReq := rfl
@[simp] theorem activate_core_position (st : State) : (activate 0 st).position = st.position := rfl
@[simp] theorem activate_core_latch (st : State) : (activate 0 st).latch = st.latch := rfl
@[simp] theorem activate_core_sched (st : State) : (activate 0 st).sched = { st.sched with ctx := .active } := rfl
@[simp] theorem activate_core_active (st : State) : (activate 0 st).active = some 0 := rfl
@[simp] theorem activate_core_others (st : State) : (activate 0 st).others = st.others := rfl
@[simp] theorem activate_core_mem (st : State) : (activate 0 st).mem = st.mem := rfl
@[simp] theorem activate_core_devices (st : State) : (activate 0 st).devices = st.devices := rfl
@[simp] theorem activate_core_history (st : State) : (activate 0 st).history = st.history := rfl
@[simp] theorem activate_core_report (st : State) : (activate 0 st).report = st.report := rfl
@[simp] theorem activate_core_driver (st : State) : (activate 0 st).driver = st.driver := rfl

/-! ### activate_other -/

@[simp] theorem activate_other_a (st : State) (k : Nat) : (activate (k + 1) st).a = st.a := rfl
@[simp] theorem activate_other_x (st : State) (k : Nat) : (activate (k + 1) st).x = st.x := rfl
@[simp] theorem activate_other_y (st : State) (k : Nat) : (activate (k + 1) st).y = st.y := rfl
@[simp] theorem activate_other_s (st : State) (k : Nat) : (activate (k + 1) st).s = st.s := rfl
@[simp] theorem activate_other_p (st : State) (k : Nat) : (activate (k + 1) st).p = st.p := rfl
@[simp] theorem activate_other_pc (st : State) (k : Nat) : (activate (k + 1) st).pc = st.pc := rfl
@[simp] theorem activate_other_ea (st : State) (k : Nat) : (activate (k + 1) st).ea = st.ea := rfl
@[simp] theorem activate_other_ir (st : State) (k : Nat) : (activate (k + 1) st).ir = st.ir := rfl
@[simp] theorem activate_other_opr (st : State) (k : Nat) : (activate (k + 1) st).opr = st.opr := rfl
@[simp] theorem activate_other_nmiLine (st : State) (k : Nat) : (activate (k + 1) st).nmiLine = st.nmiLine := rfl
@[simp] theorem activate_other_irqLines (st : State) (k : Nat) : (activate (k + 1) st).irqLines = st.irqLines := rfl
@[simp] theorem activate_other_nmiPrev (st : State) (k : Nat) : (activate (k + 1) st).nmiPrev = st.nmiPrev := rfl
@[simp] theorem activate_other_nmiPending (st : State) (k : Nat) : (activate (k + 1) st).nmiPending = st.nmiPending := rfl
@[simp] theorem activate_other_intPending (st : State) (k : Nat) : (activate (k + 1) st).intPending = st.intPending := rfl
@[simp] theorem activate_other_intVector (st : State) (k : Nat) : (activate (k + 1) st).intVector = st.intVector := rfl
@[simp] theorem activate_other_suspend (st : State) (k : Nat) : (activate (k + 1) st).suspend = st.suspend := rfl
@[simp] theorem activate_other_run (st : State) (k : Nat) : (activate (k + 1) st).run = st.run := rfl
@[simp] theorem activate_other_resetReq (st : State) (k : Nat) : (activate (k + 1) st).resetReq = st.resetReq := rfl
@[simp] theorem activate_other_position (st : State) (k : Nat) : (activate (k + 1) st).position = st.position := rfl
@[simp] theorem activate_other_latch (st : State) (k : Nat) : (activate (k + 1) st).latch = st.latch := rfl
@[simp] theorem activate_other_sched (st : State) (k : Nat) : (activate (k + 1) st).sched = st.sched := rfl
@[simp] theorem activate_other_active (st : State) (k : Nat) : (activate (k + 1) st).active = some (k + 1) := rfl
@[simp] theorem activate_other_others (st : State) (k : Nat) : (activate (k + 1) st).others = st.others.modify k fun o => { o with sched := { o.sched with ctx := .active } } := rfl
@[simp] theorem activate_other_mem (st : State) (k : Nat) : (activate (k + 1) st).mem = st.mem := rfl
@[simp] theorem activate_other_devices (st : State) (k : Nat) : (activate (k + 1) st).devices = st.devices := rfl
@[simp] theorem activate_other_history (st : State) (k : Nat) : (activate (k + 1) st).history = st.history := rfl
@[simp] theorem activate_other_report (st : State) (k : Nat) : (activate (k + 1) st).report = st.report := rfl
@[simp] theorem activate_other_driver (st : State) (k : Nat) : (activate (k + 1) st).driver = st.driver := rfl

/-! ### softResetCore -/

@[simp] theorem softResetCore_a (st : State) : (softResetCore st).a = st.a := rfl
@[simp] theorem softResetCore_x (st : State) : (softResetCore st).x = st.x := rfl
@[simp] theorem softResetCore_y (st : State) : (softResetCore st).y = st.y := rfl
@[simp] theorem softResetCore_s (st : State) : (softResetCore st).s = st.s := rfl
@[simp] theorem softResetCore_p (st : State) : (softResetCore st).p = { st.p with i := true } := rfl
@[simp] theorem softResetCore_pc (st : State) : (softResetCore st).pc = st.pc := rfl
@[simp] theorem softResetCore_ea (st : State) : (softResetCore st).ea = st.ea := rfl
@[simp] theorem softResetCore_ir (st : State) : (softResetCore st).ir = st.ir := rfl
@[simp] theorem softResetCore_opr (st : State) : (softResetCore st).opr = st.opr := rfl
@[simp] theorem softResetCore_nmiLine (st : State) : (softResetCore st).nmiLine = st.nmiLine := rfl
@[simp] theorem softResetCore_irqLines (st : State) : (softResetCore st).irqLines = st.irqLines := rfl
@[simp] theorem softResetCore_nmiPrev (st : State) : (softResetCore st).nmiPrev = st.nmiPrev := rfl
@[simp] theorem softResetCore_nmiPending (st : State) : (softResetCore st).nmiPending = st.nmiPending := rfl
@[simp] theorem softResetCore_intPending (st : State) : (softResetCore st).intPending = st.intPending := rfl
@[simp] theorem softResetCore_intVector (st : State) : (softResetCore st).intVector = st.intVector := rfl
@[simp] theorem softResetCore_suspend (st : State) : (softResetCore st).suspend = st.suspend := rfl
@[simp] theorem softResetCore_run (st : State) : (softResetCore st).run = .running := rfl
@[simp] theorem softResetCore_resetReq (st : State) : (softResetCore st).resetReq = .reset := rfl
@[simp] theorem softResetCore_position (st : State) : (softResetCore st).position = .boundary := rfl
@[simp] theorem softResetCore_latch (st : State) : (softResetCore st).latch = Latches.clear := rfl
@[simp] theorem softResetCore_sched (st : State) : (softResetCore st).sched = { st.sched with ctx := .idle } := rfl
@[simp] theorem softResetCore_active (st : State) : (softResetCore st).active = st.active := rfl
@[simp] theorem softResetCore_others (st : State) : (softResetCore st).others = st.others := rfl
@[simp] theorem softResetCore_mem (st : State) : (softResetCore st).mem = st.mem := rfl
@[simp] theorem softResetCore_devices (st : State) : (softResetCore st).devices = st.devices := rfl
@[simp] theorem softResetCore_history (st : State) : (softResetCore st).history = st.history := rfl
@[simp] theorem softResetCore_report (st : State) : (softResetCore st).report = st.report := rfl
@[simp] theorem softResetCore_driver (st : State) : (softResetCore st).driver = st.driver := rfl

/-! ### abortCore -/

@[simp] theorem abortCore_a (st : State) : (abortCore st).a = st.a := rfl
@[simp] theorem abortCore_x (st : State) : (abortCore st).x = st.x := rfl
@[simp] theorem abortCore_y (st : State) : (abortCore st).y = st.y := rfl
@[simp] theorem abortCore_s (st : State) : (abortCore st).s = st.s := rfl
@[simp] theorem abortCore_p (st : State) : (abortCore st).p = st.p := rfl
@[simp] theorem abortCore_pc (st : State) : (abortCore st).pc = st.pc := rfl
@[simp] theorem abortCore_ea (st : State) : (abortCore st).ea = st.ea := rfl
@[simp] theorem abortCore_ir (st : State) : (abortCore st).ir = st.ir := rfl
@[simp] theorem abortCore_opr (st : State) : (abortCore st).opr = st.opr := rfl
@[simp] theorem abortCore_nmiLine (st : State) : (abortCore st).nmiLine = st.nmiLine := rfl
@[simp] theorem abortCore_irqLines (st : State) : (abortCore st).irqLines = st.irqLines := rfl
@[simp] theorem abortCore_nmiPrev (st : State) : (abortCore st).nmiPrev = st.nmiPrev := rfl
@[simp] theorem abortCore_nmiPending (st : State) : (abortCore st).nmiPending = st.nmiPending := rfl
@[simp] theorem abortCore_intPending (st : State) : (abortCore st).intPending = st.intPending := rfl
@[simp] theorem abortCore_intVector (st : State) : (abortCore st).intVector = st.intVector := rfl
@[simp] theorem abortCore_suspend (st : State) : (abortCore st).suspend = st.suspend := rfl
@[simp] theorem abortCore_run (st : State) : (abortCore st).run = st.run := rfl
@[simp] theorem abortCore_resetReq (st : State) : (abortCore st).resetReq = st.resetReq := rfl
@[simp] theorem abortCore_position (st : State) : (abortCore st).position = .boundary := rfl
@[simp] theorem abortCore_latch (st : State) : (abortCore st).latch = Latches.clear := rfl
@[simp] theorem abortCore_sched (st : State) : (abortCore st).sched = { st.sched with ctx := .aborted } := rfl
@[simp] theorem abortCore_active (st : State) : (abortCore st).active = st.active := rfl
@[simp] theorem abortCore_others (st : State) : (abortCore st).others = st.others := rfl
@[simp] theorem abortCore_mem (st : State) : (abortCore st).mem = st.mem := rfl
@[simp] theorem abortCore_devices (st : State) : (abortCore st).devices = st.devices := rfl
@[simp] theorem abortCore_history (st : State) : (abortCore st).history = st.history := rfl
@[simp] theorem abortCore_report (st : State) : (abortCore st).report = st.report := rfl
@[simp] theorem abortCore_driver (st : State) : (abortCore st).driver = st.driver := rfl

/-! ### hardResetCore -/

@[simp] theorem hardResetCore_a (st : State) : (hardResetCore st).a = State.reset.a := rfl
@[simp] theorem hardResetCore_x (st : State) : (hardResetCore st).x = State.reset.x := rfl
@[simp] theorem hardResetCore_y (st : State) : (hardResetCore st).y = State.reset.y := rfl
@[simp] theorem hardResetCore_s (st : State) : (hardResetCore st).s = State.reset.s := rfl
@[simp] theorem hardResetCore_p (st : State) : (hardResetCore st).p = State.reset.p := rfl
@[simp] theorem hardResetCore_pc (st : State) : (hardResetCore st).pc = State.reset.pc := rfl
@[simp] theorem hardResetCore_ea (st : State) : (hardResetCore st).ea = State.reset.ea := rfl
@[simp] theorem hardResetCore_ir (st : State) : (hardResetCore st).ir = State.reset.ir := rfl
@[simp] theorem hardResetCore_opr (st : State) : (hardResetCore st).opr = State.reset.opr := rfl
@[simp] theorem hardResetCore_nmiLine (st : State) : (hardResetCore st).nmiLine = State.reset.nmiLine := rfl
@[simp] theorem hardResetCore_irqLines (st : State) : (hardResetCore st).irqLines = State.reset.irqLines := rfl
@[simp] theorem hardResetCore_nmiPrev (st : State) : (hardResetCore st).nmiPrev = State.reset.nmiPrev := rfl
@[simp] theorem hardResetCore_nmiPending (st : State) : (hardResetCore st).nmiPending = State.reset.nmiPending := rfl
@[simp] theorem hardResetCore_intPending (st : State) : (hardResetCore st).intPending = State.reset.intPending := rfl
@[simp] theorem hardResetCore_intVector (st : State) : (hardResetCore st).intVector = State.reset.intVector := rfl
@[simp] theorem hardResetCore_suspend (st : State) : (hardResetCore st).suspend = State.reset.suspend := rfl
@[simp] theorem hardResetCore_run (st : State) : (hardResetCore st).run = State.reset.run := rfl
@[simp] theorem hardResetCore_resetReq (st : State) : (hardResetCore st).resetReq = State.reset.resetReq := rfl
@[simp] theorem hardResetCore_position (st : State) : (hardResetCore st).position = State.reset.position := rfl
@[simp] theorem hardResetCore_latch (st : State) : (hardResetCore st).latch = State.reset.latch := rfl
@[simp] theorem hardResetCore_sched (st : State) : (hardResetCore st).sched = State.reset.sched := rfl
@[simp] theorem hardResetCore_active (st : State) : (hardResetCore st).active = st.active := rfl
@[simp] theorem hardResetCore_others (st : State) : (hardResetCore st).others = st.others := rfl
@[simp] theorem hardResetCore_mem (st : State) : (hardResetCore st).mem = st.mem := rfl
@[simp] theorem hardResetCore_devices (st : State) : (hardResetCore st).devices = st.devices := rfl
@[simp] theorem hardResetCore_history (st : State) : (hardResetCore st).history = st.history := rfl
@[simp] theorem hardResetCore_report (st : State) : (hardResetCore st).report = st.report := rfl
@[simp] theorem hardResetCore_driver (st : State) : (hardResetCore st).driver = st.driver := rfl

/-! ### Scheduler state -/

@[simp] theorem sched_grant_budget (q : Sched) (n : Int) : (Sched.grant n q).budget = q.budget + n := rfl
@[simp] theorem sched_grant_clock (q : Sched) (n : Int) : (Sched.grant n q).clock = q.clock := rfl
@[simp] theorem sched_grant_stallPending (q : Sched) (n : Int) : (Sched.grant n q).stallPending = q.stallPending := rfl
@[simp] theorem sched_grant_ctx (q : Sched) (n : Int) : (Sched.grant n q).ctx = q.ctx := rfl
@[simp] theorem sched_stall_budget (q : Sched) (n : Nat) : (Sched.stall n q).budget = q.budget := rfl
@[simp] theorem sched_stall_clock (q : Sched) (n : Nat) : (Sched.stall n q).clock = q.clock := rfl
@[simp] theorem sched_stall_stallPending (q : Sched) (n : Nat) : (Sched.stall n q).stallPending = q.stallPending + n := rfl
@[simp] theorem sched_stall_ctx (q : Sched) (n : Nat) : (Sched.stall n q).ctx = q.ctx := rfl
@[simp] theorem sched_account_budget (q : Sched) (n : Nat) : (Sched.account n q).budget = q.budget - n := rfl
@[simp] theorem sched_account_clock (q : Sched) (n : Nat) : (Sched.account n q).clock = q.clock + n := rfl
@[simp] theorem sched_account_stallPending (q : Sched) (n : Nat) : (Sched.account n q).stallPending = q.stallPending - n := rfl
@[simp] theorem sched_account_ctx (q : Sched) (n : Nat) : (Sched.account n q).ctx = q.ctx := rfl
@[simp] theorem sched_unaccount_budget (q : Sched) (n : Nat) : (Sched.unaccount n q).budget = q.budget + n := rfl
@[simp] theorem sched_unaccount_clock (q : Sched) (n : Nat) : (Sched.unaccount n q).clock = q.clock - n := rfl
@[simp] theorem sched_unaccount_stallPending (q : Sched) (n : Nat) : (Sched.unaccount n q).stallPending = q.stallPending + n := rfl
@[simp] theorem sched_unaccount_ctx (q : Sched) (n : Nat) : (Sched.unaccount n q).ctx = q.ctx := rfl
@[simp] theorem sched_tick_budget (q : Sched) : (Sched.tick q).budget = q.budget - 1 := rfl
@[simp] theorem sched_tick_clock (q : Sched) : (Sched.tick q).clock = q.clock + 1 := rfl
@[simp] theorem sched_tick_stallPending (q : Sched) : (Sched.tick q).stallPending = q.stallPending := rfl
@[simp] theorem sched_tick_ctx (q : Sched) : (Sched.tick q).ctx = q.ctx := rfl
@[simp] theorem sched_due_read (q : Sched) : q.due .read = q.stallPending := rfl
@[simp] theorem sched_due_write (q : Sched) : q.due .write = 0 := rfl
@[simp] theorem schedOf_core (st : State) : schedOf 0 st = some st.sched := rfl

/-! ### Other contexts -/

@[simp] theorem hardResetOther_sched (o : OtherContext) (k : Nat) : (hardResetOther k o).sched = ⟨0, 0, 0, .idle⟩ := rfl
@[simp] theorem hardResetOther_run (o : OtherContext) (k : Nat) : (hardResetOther k o).run = .running := rfl
@[simp] theorem hardResetOther_resetReq (o : OtherContext) (k : Nat) : (hardResetOther k o).resetReq = .reset := rfl
@[simp] theorem hardResetOther_position (o : OtherContext) (k : Nat) : (hardResetOther k o).position = 0 := rfl
@[simp] theorem hardResetOther_registers (o : OtherContext) (k : Nat) : (hardResetOther k o).registers = Config.otherHardReset k := rfl
@[simp] theorem softResetOther_sched (o : OtherContext) (k : Nat) : (softResetOther k o).sched = { o.sched with ctx := .idle } := rfl
@[simp] theorem softResetOther_run (o : OtherContext) (k : Nat) : (softResetOther k o).run = .running := rfl
@[simp] theorem softResetOther_resetReq (o : OtherContext) (k : Nat) : (softResetOther k o).resetReq = .reset := rfl
@[simp] theorem softResetOther_position (o : OtherContext) (k : Nat) : (softResetOther k o).position = 0 := rfl
@[simp] theorem softResetOther_registers (o : OtherContext) (k : Nat) : (softResetOther k o).registers = Config.otherSoftReset k o.registers := rfl
@[simp] theorem abortOther_sched (o : OtherContext) (k : Nat) : (abortOther k o).sched = { o.sched with ctx := .aborted } := rfl
@[simp] theorem abortOther_run (o : OtherContext) (k : Nat) : (abortOther k o).run = o.run := rfl
@[simp] theorem abortOther_resetReq (o : OtherContext) (k : Nat) : (abortOther k o).resetReq = o.resetReq := rfl
@[simp] theorem abortOther_position (o : OtherContext) (k : Nat) : (abortOther k o).position = 0 := rfl
@[simp] theorem abortOther_registers (o : OtherContext) (k : Nat) : (abortOther k o).registers = o.registers := rfl
@[simp] theorem jamOther_sched (o : OtherContext) : (jamOther o).sched = o.sched := rfl
@[simp] theorem jamOther_run (o : OtherContext) : (jamOther o).run = .jammed := rfl
@[simp] theorem jamOther_resetReq (o : OtherContext) : (jamOther o).resetReq = o.resetReq := rfl
@[simp] theorem jamOther_position (o : OtherContext) : (jamOther o).position = 0 := rfl
@[simp] theorem jamOther_registers (o : OtherContext) : (jamOther o).registers = o.registers := rfl
@[simp] theorem advanceOther_sched (o : OtherContext) (next : OtherNext) : (advanceOther next o).sched = o.sched := rfl
@[simp] theorem advanceOther_run (o : OtherContext) (next : OtherNext) : (advanceOther next o).run = o.run := rfl
@[simp] theorem advanceOther_resetReq (o : OtherContext) (next : OtherNext) : (advanceOther next o).resetReq = o.resetReq := rfl
@[simp] theorem advanceOther_position (o : OtherContext) (next : OtherNext) : (advanceOther next o).position = (if next.boundary then 0 else o.position + 1) := rfl
@[simp] theorem advanceOther_registers (o : OtherContext) (next : OtherNext) : (advanceOther next o).registers = next.registers := rfl
@[simp] theorem beginOther_sched (o : OtherContext) : (beginOther o).sched = o.sched := by unfold beginOther; split <;> rfl
@[simp] theorem beginOther_run (o : OtherContext) : (beginOther o).run = o.run := by unfold beginOther; split <;> rfl
theorem beginOther_resetReq (o : OtherContext) :
    (beginOther o).resetReq = if o.position = 0 then .none else o.resetReq := by unfold beginOther; split <;> rfl
@[simp] theorem beginOther_position (o : OtherContext) : (beginOther o).position = o.position := by unfold beginOther; split <;> rfl
@[simp] theorem beginOther_registers (o : OtherContext) : (beginOther o).registers = o.registers := by unfold beginOther; split <;> rfl

end Sys2Proof.Laws
end

