-- ==== Sys2Proof/Laws/Bus.lean ====
section
/-! SUPPORT. What the bus operations can do, said once each: collaborators' calls, the resolver, a bus cycle, one transaction of the core. -/

namespace Sys2Proof.Laws

open Sys2Proof.Machine

/-! ### Collaborators' calls -/

/-- What collaborators' calls leave alone of another context. -/
def keptOfOther (o : OtherContext) : Nat × CtxState × Run × ResetReq × Nat × Nat :=
  (o.sched.clock, o.sched.ctx, o.run, o.resetReq, o.position, o.registers)

/-- The part of the state that collaborators' calls leave alone (R63): all but the input lines and the budgets and pending
stall cycles of the contexts. -/
structure Collaborated (st st' : State) : Prop where
  a : st'.a = st.a
  x : st'.x = st.x
  y : st'.y = st.y
  s : st'.s = st.s
  pc : st'.pc = st.pc
  ea : st'.ea = st.ea
  ir : st'.ir = st.ir
  opr : st'.opr = st.opr
  p : st'.p = st.p
  nmiPrev : st'.nmiPrev = st.nmiPrev
  nmiPending : st'.nmiPending = st.nmiPending
  intPending : st'.intPending = st.intPending
  intVector : st'.intVector = st.intVector
  suspend : st'.suspend = st.suspend
  run : st'.run = st.run
  resetReq : st'.resetReq = st.resetReq
  position : st'.position = st.position
  latch : st'.latch = st.latch
  clock : st'.sched.clock = st.sched.clock
  ctx : st'.sched.ctx = st.sched.ctx
  active : st'.active = st.active
  others : ∀ k : Nat, (st'.others[k]?).map keptOfOther = (st.others[k]?).map keptOfOther
  mem : st'.mem = st.mem
  devices : st'.devices = st.devices
  history : st'.history = st.history
  report : st'.report = st.report
  driver : st'.driver = st.driver
  lines : st.irqLines < 2 ^ Config.nirq → st'.irqLines < 2 ^ Config.nirq

theorem Collaborated.refl (s : State) : Collaborated s s := by constructor <;> simp

theorem Collaborated.trans {s t u : State} (h₁ : Collaborated s t) (h₂ : Collaborated t u) : Collaborated s u where
  a := h₂.a.trans h₁.a
  x := h₂.x.trans h₁.x
  y := h₂.y.trans h₁.y
  s := h₂.s.trans h₁.s
  pc := h₂.pc.trans h₁.pc
  ea := h₂.ea.trans h₁.ea
  ir := h₂.ir.trans h₁.ir
  opr := h₂.opr.trans h₁.opr
  p := h₂.p.trans h₁.p
  nmiPrev := h₂.nmiPrev.trans h₁.nmiPrev
  nmiPending := h₂.nmiPending.trans h₁.nmiPending
  intPending := h₂.intPending.trans h₁.intPending
  intVector := h₂.intVector.trans h₁.intVector
  suspend := h₂.suspend.trans h₁.suspend
  run := h₂.run.trans h₁.run
  resetReq := h₂.resetReq.trans h₁.resetReq
  position := h₂.position.trans h₁.position
  latch := h₂.latch.trans h₁.latch
  clock := h₂.clock.trans h₁.clock
  ctx := h₂.ctx.trans h₁.ctx
  active := h₂.active.trans h₁.active
  others := fun k => (h₂.others k).trans (h₁.others k)
  mem := h₂.mem.trans h₁.mem
  devices := h₂.devices.trans h₁.devices
  history := h₂.history.trans h₁.history
  report := h₂.report.trans h₁.report
  driver := h₂.driver.trans h₁.driver
  lines := fun h => h₂.lines (h₁.lines h)

/-- Setting or clearing a known line keeps the lines within NIRQ bits. -/
theorem setLine_lt {lines i : Nat} (asserted : Bool) (hi : i < Config.nirq) (h : lines < 2 ^ Config.nirq) :
    setLine lines i asserted < 2 ^ Config.nirq := by
  unfold setLine
  split
  · exact h
  · exact Nat.xor_lt_two_pow h (Nat.pow_lt_pow_right (by omega) hi)

/-- A change of a scheduler state that keeps clock and life state. -/
theorem Collaborated.updateSched (h : Nat) (f : Sched → Sched) (s : State) (hc : ∀ q, (f q).clock = q.clock)
    (hx : ∀ q, (f q).ctx = q.ctx) : Collaborated s (updateSched h f s) := by
  cases h with
  | zero => constructor <;> simp [hc, hx]
  | succ k =>
    constructor <;> try simp
    intro j
    rw [List.getElem?_modify]
    cases s.others[j]? with
    | none => simp
    | some o => by_cases hj : k = j <;> simp [hj, hc, hx, keptOfOther]

/-- `AssertLine`, when accepted, changes only its line (R311). -/
theorem assertLine_ok {source : Source} {asserted : Bool} {s t : State} (h : assertLine source asserted s = .ok t) :
    (source = .nmi ∧ t = { s with nmiLine := asserted }) ∨
    (∃ i, source = .level i ∧ i < Config.nirq ∧ t = { s with irqLines := setLine s.irqLines i asserted }) := by
  unfold assertLine at h
  split at h
  · exact .inl ⟨rfl, by simpa using h.symm⟩
  · split at h
    · rename_i i hi
      exact .inr ⟨i, rfl, hi, by simpa using h.symm⟩
    · cases h

/-- A call made during a transaction, when accepted, is one of three (R63). -/
theorem callDuring_ok {c : Call} {s t : State} (h : callDuring c s = .ok t) :
    (∃ source asserted, c = .assertLine source asserted ∧ assertLine source asserted s = .ok t) ∨
    (∃ k n, c = .stall k n ∧ (schedOf k s).isSome ∧ t = updateSched k (Sched.stall n) s) ∨
    (∃ k n, c = .grantCycles k n ∧ 0 ≤ n ∧ (schedOf k s).isSome ∧ t = updateSched k (Sched.grant n) s) := by
  unfold callDuring at h
  split at h <;> try cases h
  · exact .inl ⟨_, _, rfl, h⟩
  · split at h
    · rename_i hs
      exact .inr (.inl ⟨_, _, rfl, hs, by simpa using h.symm⟩)
    · cases h
  · split at h
    · cases h
    · split at h
      · rename_i hn hs
        exact .inr (.inr ⟨_, _, rfl, by omega, hs, by simpa using h.symm⟩)
      · cases h

/-- A call made during a transaction leaves the registers, the clocks and the life states alone. -/
theorem callDuring_collaborated {c : Call} {s t : State} (h : callDuring c s = .ok t) : Collaborated s t := by
  obtain ⟨source, asserted, -, h⟩ | ⟨k, n, -, -, rfl⟩ | ⟨k, n, -, -, -, rfl⟩ := callDuring_ok h
  · obtain ⟨-, rfl⟩ | ⟨i, -, hi, rfl⟩ := assertLine_ok h
    · constructor <;> simp
    · constructor <;> try simp
      exact setLine_lt asserted hi
  · exact Collaborated.updateSched _ _ _ (fun _ => rfl) (fun _ => rfl)
  · exact Collaborated.updateSched _ _ _ (fun _ => rfl) (fun _ => rfl)

/-- The calls made during a transaction leave the registers, the clocks and the life states alone. -/
theorem collaborate_collaborated : ∀ {calls : List CollabCall} {s t : State}, collaborate calls s = .ok t →
    Collaborated s t
  | [], s, t, h => by
    simp only [collaborate, Except.ok.injEq] at h
    subst h
    exact .refl s
  | .suspendCaller :: rest, s, t, h => by cases h
  | .call c :: rest, s, t, h => by
    simp only [collaborate] at h
    split at h
    · rename_i u hu
      exact (callDuring_collaborated hu).trans (collaborate_collaborated h)
    · cases h

/-! ### The resolver -/

/-- A transaction of bank 0 is plain where no device window covers its address. -/
theorem toDevice_plain {t : Txn} {s : State} (hb : t.bank = 0) (hd : s.devices = []) : toDevice t s = false := by
  simp [toDevice, hb, hd]

/-- A plain read answers the byte of memory. -/
theorem resolve_read {t : Txn} {s : State} (hp : toDevice t s = false) (hd : t.dir = .read) :
    resolve t s = .answered (peek s t.addr) s := by
  simp [resolve, hp, hd]

/-- A plain write stores its byte. -/
theorem resolve_write {t : Txn} {s : State} (hp : toDevice t s = false) (hd : t.dir = .write) :
    resolve t s = .answered t.data (poke s t.addr t.data) := by
  simp [resolve, hp, hd]

/-- What step b of R61 can have done when it answers: plain memory read or written, or a device with its calls. -/
theorem resolve_answered {t : Txn} {d : Byte} {s u : State} (h : resolve t s = .answered d u) :
    (toDevice t s = false ∧ t.dir = .read ∧ d = peek s t.addr ∧ u = s) ∨
    (toDevice t s = false ∧ t.dir = .write ∧ d = t.data ∧ u = poke s t.addr t.data) ∨
    (toDevice t s = true ∧ collaborate (Config.resolver t s.history).calls s = .ok u) := by
  unfold resolve at h
  split at h
  · rename_i hdev
    dsimp only at h
    split at h
    · cases h
    · rename_i v hv
      split at h
      · cases h
      · cases h
        exact .inr (.inr ⟨hdev, hv⟩)
      · split at h
        · cases h
          exact .inr (.inr ⟨hdev, hv⟩)
        · cases h
  · rename_i hdev
    split at h
    · rename_i hd
      cases h
      exact .inl ⟨by simpa using hdev, hd, rfl, rfl⟩
    · rename_i hd
      cases h
      exact .inr (.inl ⟨by simpa using hdev, hd, rfl, rfl⟩)

/-- A failure comes from a device, after its calls. -/
theorem resolve_failed {t : Txn} {e : Payload} {s u : State} (h : resolve t s = .failed e u) :
    toDevice t s = true ∧ collaborate (Config.resolver t s.history).calls s = .ok u := by
  unfold resolve at h
  split at h
  · rename_i hdev
    dsimp only at h
    split at h
    · cases h
    · rename_i v hv
      split at h
      · cases h
        exact ⟨hdev, hv⟩
      · cases h
      · split at h
        · cases h
        · cases h
          exact ⟨hdev, hv⟩
  · split at h <;> cases h

/-- What answering changes: memory, or what collaborators' calls change. -/
theorem resolve_answered_collaborated {t : Txn} {d : Byte} {s u : State} (h : resolve t s = .answered d u) :
    ∃ m, u.mem = m ∧ (m = s.mem ∨ m = Memory.write s.mem t.addr.toNat t.data) ∧
      Collaborated s { u with mem := s.mem } := by
  obtain ⟨-, -, -, rfl⟩ | ⟨-, -, -, rfl⟩ | ⟨-, hc⟩ := resolve_answered h
  · exact ⟨_, rfl, .inl rfl, .refl _⟩
  · exact ⟨_, rfl, .inr rfl, .refl _⟩
  · have hk := collaborate_collaborated hc
    refine ⟨_, rfl, .inl hk.mem, ?_⟩
    rw [← hk.mem]
    exact hk

/-! ### A bus cycle -/

/-- A bus cycle that answers: the stall cycles are accounted, the transaction is resolved, recorded and ticked (R61). -/
theorem busCycle_answered {h : Nat} {t : Txn} {d : Byte} {s u : State} (hb : busCycle h t s = .answered d u) :
    ∃ v, resolve t (updateSched h (Sched.account (((schedOf h s).map (Sched.due t.dir)).getD 0)) s) = .answered d v ∧
      u = updateSched h Sched.tick (record h t d v) := by
  unfold busCycle at hb
  dsimp only at hb
  split at hb
  · cases hb
  · cases hb
  · rename_i hr
    cases hb
    exact ⟨_, hr, rfl⟩

/-- A bus cycle that fails: the accounting is undone (R331). -/
theorem busCycle_failed {h : Nat} {t : Txn} {e : Payload} {s u : State} (hb : busCycle h t s = .failed e u) :
    ∃ v, resolve t (updateSched h (Sched.account (((schedOf h s).map (Sched.due t.dir)).getD 0)) s) = .failed e v ∧
      u = updateSched h (Sched.unaccount (((schedOf h s).map (Sched.due t.dir)).getD 0)) v := by
  unfold busCycle at hb
  dsimp only at hb
  split at hb
  · cases hb
  · rename_i hr
    cases hb
    exact ⟨_, hr, rfl⟩
  · cases hb

/-! ### A transaction of the core -/

/-- The state in which step a of a transaction starts: polled, or with polling disabled (R61 step 0, R316). -/
def polled (sus : Bool) (s : State) : State :=
  if s.suspend || sus then { s with suspend := true } else poll { s with suspend := false }

theorem transact_eq (q : SeqKind) (k : Nat) (sus : Bool) (t : Txn) (s : State) :
    transact q k sus t s =
      match busCycle 0 t (polled sus s) with
      | .refused m => .refused m
      | .failed e u => .stopped (stop (.faulted e) { u with run := .faulted e, position := .inTxn q k 0 })
      | .answered d u =>
        if u.sched.budget ≤ 0 then .stopped (stop .exhausted { u with position := .inTxn q k d }) else .done d u := by
  unfold transact polled
  dsimp only
  cases s.suspend || sus <;> rfl

/-- A transaction that is done: its bus cycle answered and budget is left. -/
theorem transact_done {q : SeqKind} {k : Nat} {sus : Bool} {t : Txn} {d : Byte} {s u : State}
    (h : transact q k sus t s = .done d u) :
    busCycle 0 t (polled sus s) = .answered d u ∧ 0 < u.sched.budget := by
  rw [transact_eq] at h
  split at h
  · cases h
  · cases h
  · split at h
    · cases h
    · rename_i hb hn
      cases h
      exact ⟨hb, by omega⟩

/-- A transaction that stops the context: the resolver failed, or the budget is used up. -/
theorem transact_stopped {q : SeqKind} {k : Nat} {sus : Bool} {t : Txn} {s u : State}
    (h : transact q k sus t s = .stopped u) :
    (∃ e v, busCycle 0 t (polled sus s) = .failed e v ∧
      u = stop (.faulted e) { v with run := .faulted e, position := .inTxn q k 0 }) ∨
    (∃ d v, busCycle 0 t (polled sus s) = .answered d v ∧ v.sched.budget ≤ 0 ∧
      u = stop .exhausted { v with position := .inTxn q k d }) := by
  rw [transact_eq] at h
  split at h
  · cases h
  · rename_i e v hb
    cases h
    exact .inl ⟨e, v, hb, rfl⟩
  · rename_i d v hb
    split at h
    · rename_i hn
      cases h
      exact .inr ⟨d, v, hb, hn, rfl⟩
    · cases h

end Sys2Proof.Laws
end

