-- ==== Sys2Proof/Laws/Driver.lean ====
section
/-! SUPPORT. What the driver's calls and the slices of other contexts can do, said once each. -/

namespace Sys2Proof.Laws

open Sys2Proof.Machine

/-- Changing a listed element is setting it. -/
theorem modify_eq_set {α : Type} {l : List α} {k : Nat} {o : α} (f : α → α) (h : l[k]? = some o) :
    l.modify k f = l.set k (f o) := by
  obtain ⟨hk, rfl⟩ := List.getElem?_eq_some_iff.mp h
  apply List.ext_getElem?
  intro i
  rw [List.getElem?_modify, List.getElem?_set]
  by_cases hi : k = i
  · subst hi
    simp [hk]
  · simp [hi]

/-- Changing another context that exists is setting it. -/
theorem updateOther_eq_set {k : Nat} {o : OtherContext} {s : State} (f : OtherContext → OtherContext)
    (h : s.others[k]? = some o) : updateOther k f s = { s with others := s.others.set k (f o) } := by
  rw [updateOther, modify_eq_set f h]

/-- `Resume`, when it is accepted, reports at once or starts the slice (R342). -/
theorem resume_next {h : Nat} {s t : State} (hr : resume h s = .next t) :
    ∃ q run, schedOf h s = some q ∧ runOf h s = some run ∧
      ((∃ status, resumeDecision q run = .report status ∧ t = { s with report := some ⟨h, status, q.budget⟩ }) ∨
        (resumeDecision q run = .start ∧ t = activate h s)) := by
  unfold resume at hr
  split at hr
  · rename_i q run hq hrun
    refine ⟨q, run, hq, hrun, ?_⟩
    split at hr
    · cases hr
    · rename_i status hd
      cases hr
      exact .inl ⟨status, hd, rfl⟩
    · rename_i hd
      cases hr
      exact .inr ⟨hd, rfl⟩
  · cases hr

/-- A slice starts only for an idle or suspended, running context with budget (R342). -/
theorem resumeDecision_start {q : Sched} {run : Run} (h : resumeDecision q run = .start) :
    (q.ctx = .idle ∨ q.ctx = .suspended) ∧ run = .running ∧ 0 < q.budget := by
  unfold resumeDecision at h
  split at h
  · cases h
  · cases h
  all_goals
    rename_i hc
    split at h
    · cases h
    · cases h
    · split at h
      · cases h
      · refine ⟨?_, rfl, by omega⟩
        simp_all

/-- A reset or an Abort, when it is accepted, applies to the context named (R346). -/
theorem lifeCall_next {h : Nat} {ok : CtxState → Option Misuse} {f : State → State} {g : Nat → OtherContext → OtherContext}
    {s t : State} (hl : lifeCall h ok f g s = .next t) :
    ∃ q, schedOf h s = some q ∧ ok q.ctx = none ∧
      ((h = 0 ∧ t = f s) ∨ ∃ k, h = k + 1 ∧ t = updateOther k (g k) s) := by
  unfold lifeCall at hl
  split at hl
  · cases hl
  · rename_i q hq
    split at hl
    · cases hl
    · rename_i hok
      refine ⟨q, hq, hok, ?_⟩
      split at hl
      · cases hl
        exact .inl ⟨rfl, rfl⟩
      · cases hl
        exact .inr ⟨_, rfl, rfl⟩

/-- The driver's step: nothing to do, or its next call. -/
theorem driverStep_next {s t : State} (h : driverStep s = .next t) :
    (s.driver = [] ∧ t = s) ∨ ∃ c rest, s.driver = c :: rest ∧ driverCall c { s with driver := rest } = .next t := by
  unfold driverStep at h
  split at h
  · rename_i hd
    cases h
    exact .inl ⟨hd, rfl⟩
  · rename_i c rest hd
    exact .inr ⟨c, rest, hd, h⟩

/-- A call that is accepted only while no context is active. -/
theorem whenNoneActive_next {r : Result} {s t : State} (h : whenNoneActive r s = .next t) :
    s.active = none ∧ r = .next t := by
  unfold whenNoneActive at h
  split at h
  · exact ⟨‹_›, h⟩
  · cases h

/-- A call of the driver: one that may be made at any time, or, while no context is active, a Resume, a reset or an
Abort. -/
theorem driverCall_next {c : Call} {s t : State} (h : driverCall c s = .next t) :
    callDuring c s = .ok t ∨ s.active = none ∧
    ((∃ k, c = .resume k ∧ resume k s = .next t) ∨
      (∃ k, c = .hardReset k ∧ lifeCall k hardResetOk hardResetCore hardResetOther s = .next t) ∨
      (∃ k, c = .softReset k ∧ lifeCall k softResetOk softResetCore softResetOther s = .next t) ∨
      (∃ k, c = .abort k ∧ lifeCall k abortOk abortCore abortOther s = .next t)) := by
  have hd : ∀ c, (match callDuring c s with
      | .ok u => (.next u : Result)
      | .error m => .refused (.outOfContract m)) = .next t → callDuring c s = .ok t := by
    intro c hc
    split at hc
    · rename_i hok
      cases hc
      exact hok
    · cases hc
  cases c with
  | resume k =>
    obtain ⟨ha, h⟩ := whenNoneActive_next h
    exact .inr ⟨ha, .inl ⟨k, rfl, h⟩⟩
  | hardReset k =>
    obtain ⟨ha, h⟩ := whenNoneActive_next h
    exact .inr ⟨ha, .inr (.inl ⟨k, rfl, h⟩)⟩
  | softReset k =>
    obtain ⟨ha, h⟩ := whenNoneActive_next h
    exact .inr ⟨ha, .inr (.inr (.inl ⟨k, rfl, h⟩))⟩
  | abort k =>
    obtain ⟨ha, h⟩ := whenNoneActive_next h
    exact .inr ⟨ha, .inr (.inr (.inr ⟨k, rfl, h⟩))⟩
  | assertLine source asserted => exact .inl (hd _ h)
  | stall k n => exact .inl (hd _ h)
  | grantCycles k n => exact .inl (hd _ h)

/-- Step d of another context: it yields, or nothing happens. -/
theorem yieldOther_cases (k : Nat) (s : State) :
    yieldOther k s = s ∨ yieldOther k s = deactivate (k + 1) .exhausted s := by
  unfold yieldOther
  split
  · split
    · exact .inr rfl
    · exact .inl rfl
  · exact .inl rfl

/-- One action of another context: it is not running and stops, it jams, its transaction fails, or its transaction is done
and it yields or goes on. -/
theorem otherStep_next {k : Nat} {s t : State} (h : otherStep k s = .next t) :
    ∃ o, s.others[k]? = some o ∧
      ((∃ status, t = deactivate (k + 1) status s) ∨
        (t = deactivate (k + 1) .jammed (updateOther k jamOther s)) ∨
        ∃ x, (∃ e u, busCycle (k + 1) x (updateOther k beginOther s) = .failed e u ∧
            t = deactivate (k + 1) (.faulted e) (updateOther k (fun o => { o with run := .faulted e }) u)) ∨
          (∃ d u next, busCycle (k + 1) x (updateOther k beginOther s) = .answered d u ∧
            t = yieldOther k (updateOther k (advanceOther next) u))) := by
  unfold otherStep at h
  split at h
  · cases h
  · rename_i o ho
    refine ⟨o, ho, ?_⟩
    split at h
    · cases h
      exact .inl ⟨_, rfl⟩
    · cases h
      exact .inl ⟨_, rfl⟩
    · split at h
      · cases h
        exact .inr (.inl rfl)
      · rename_i x hx
        refine .inr (.inr ⟨x, ?_⟩)
        unfold otherTransaction at h
        split at h
        · cases h
        · rename_i e u hb
          cases h
          exact .inl ⟨e, u, hb, rfl⟩
        · rename_i d u hb
          cases h
          exact .inr ⟨d, u, _, hb, rfl⟩

end Sys2Proof.Laws
end

