-- ==== Sys2Proof/Laws/Sequences.lean ====
section
/-! SUPPORT. What running a sequence of transactions can do, said once: the equations of runFrom and runSeq, the induction along a sequence, what the lines of every instruction leave alone, and that every instruction is such a sequence or the jam. -/

namespace Sys2Proof.Laws

open Sys2Proof.Machine Sys2Proof.Safety

/-! ### The equations of a sequence -/

theorem runFrom_nil (q : SeqKind) (k : Nat) (s : State) : runFrom q k [] s = .next (finish s) := rfl

/-- The first line of a sequence: refused, stopped, or done and then ended or gone on. -/
theorem runFrom_cons (q : SeqKind) (k : Nat) (m : Micro) (rest : List Micro) (s : State) :
    runFrom q k (m :: rest) s =
      match transact q k (m.sus s) (m.txn s) s with
      | .refused e => .refused (.outOfContract e)
      | .stopped u => .next u
      | .done d u =>
        if m.ends (m.after d (stepE u)) then .next (finish (m.after d (stepE u)))
        else runFrom q (k + 1) rest (m.after d (stepE u)) := rfl

/-- At a boundary a sequence runs from its start. -/
theorem runSeq_boundary {q : SeqKind} {first : Nat} {lines : List Micro} {s : State} (h : s.position = .boundary) :
    runSeq q first lines s = runFrom q first lines s := by
  simp only [runSeq, h]

/-- From a retained position that the sequence has, it goes on at step e of that transaction (R342). -/
theorem runSeq_retained {q : SeqKind} {first k : Nat} {d : Byte} {lines rest : List Micro} {m : Micro} {s : State}
    (h : s.position = .inTxn q k d) (hk : first ≤ k) (hl : lines.drop (k - first) = m :: rest) :
    runSeq q first lines s =
      if m.ends (m.after d (stepE s)) then .next (finish (m.after d (stepE s)))
      else runFrom q (k + 1) rest (m.after d (stepE s)) := by
  simp only [runSeq, h, hl, hk, and_self, if_true]

/-! ### Induction along a sequence -/

/-- If `P` holds before the first line, is kept by every line that is done, and `Q` follows at the end and at every stop,
then `Q` holds of the state that the sequence answers. -/
theorem runFrom_next {P Q : State → Prop} {q : SeqKind} : ∀ {lines : List Micro} {k : Nat} {s t : State},
    (∀ m ∈ lines, ∀ (j : Nat) (u v : State) (d : Byte), P u → transact q j (m.sus u) (m.txn u) u = .done d v →
      P (m.after d (stepE v))) →
    (∀ m ∈ lines, ∀ (j : Nat) (u v : State), k ≤ j → j < k + lines.length → P u →
      transact q j (m.sus u) (m.txn u) u = .stopped v → Q v) →
    (∀ u, P u → Q (finish u)) → P s → runFrom q k lines s = .next t → Q t
  | [], k, s, t, _, _, hf, hp, h => by
    cases h
    exact hf s hp
  | m :: rest, k, s, t, hd, hs, hf, hp, h => by
    rw [runFrom_cons] at h
    split at h
    · cases h
    · rename_i u hu
      cases h
      exact hs m (by simp) k s _ (Nat.le_refl k) (by simp) hp hu
    · rename_i d u hu
      have hp' := hd m (by simp) k s u d hp hu
      split at h
      · cases h
        exact hf _ hp'
      · refine runFrom_next (fun m' hm => hd m' (by simp [hm])) (fun m' hm j u v h1 h2 => ?_) hf hp' h
        exact hs m' (by simp [hm]) j u v (by omega) (by simp only [List.length_cons]; omega)

/-- The same for a sequence that starts at a boundary or goes on from its retained position: `R` is what the first
transaction's step e needs of the state. -/
theorem runSeq_next {P Q : State → Prop} {q : SeqKind} {first : Nat} {lines : List Micro} {s t : State}
    (hd : ∀ m ∈ lines, ∀ (j : Nat) (u v : State) (d : Byte), P u → transact q j (m.sus u) (m.txn u) u = .done d v →
      P (m.after d (stepE v)))
    (hs : ∀ m ∈ lines, ∀ (j : Nat) (u v : State), first ≤ j → j < first + lines.length → P u →
      transact q j (m.sus u) (m.txn u) u = .stopped v → Q v)
    (hf : ∀ u, P u → Q (finish u))
    (hb : s.position = .boundary → P s)
    (hr : ∀ m ∈ lines, ∀ (k : Nat) (d : Byte), s.position = .inTxn q k d → P (m.after d (stepE s)))
    (h : runSeq q first lines s = .next t) : Q t := by
  cases hpos : s.position with
  | boundary =>
    rw [runSeq_boundary hpos] at h
    exact runFrom_next hd hs hf (hb hpos) h
  | inTxn q' k d =>
    simp only [runSeq, hpos] at h
    split at h
    · rename_i hqk
      obtain ⟨rfl, hk⟩ := hqk
      split at h
      · cases h
      · rename_i m rest hl
        have hsub : ∀ m' ∈ m :: rest, m' ∈ lines := fun m' hm => by
          rw [← hl] at hm; exact List.mem_of_mem_drop hm
        have hlen : (m :: rest).length = lines.length - (k - first) := by rw [← hl, List.length_drop]
        have hp := hr m (hsub m (by simp)) k d hpos
        split at h
        · cases h
          exact hf _ hp
        · refine runFrom_next (fun m' hm => hd m' (hsub m' (by simp [hm]))) (fun m' hm j u v h1 h2 => ?_) hf hp h
          simp only [List.length_cons] at hlen
          exact hs m' (hsub m' (by simp [hm])) j u v (by omega) (by omega)
    · cases h

/-! ### What the lines of a sequence leave alone -/

/-- The part of the state that register updates after a transaction leave alone: all but A, X, Y, S, PC, EA, OPR, the
flags and the latches. -/
structure Kept (st st' : State) : Prop where
  ir : st'.ir = st.ir
  nmiLine : st'.nmiLine = st.nmiLine
  irqLines : st'.irqLines = st.irqLines
  nmiPrev : st'.nmiPrev = st.nmiPrev
  nmiPending : st'.nmiPending = st.nmiPending
  intPending : st'.intPending = st.intPending
  intVector : st'.intVector = st.intVector
  suspend : st'.suspend = st.suspend
  run : st'.run = st.run
  resetReq : st'.resetReq = st.resetReq
  position : st'.position = st.position
  sched : st'.sched = st.sched
  active : st'.active = st.active
  others : st'.others = st.others
  mem : st'.mem = st.mem
  devices : st'.devices = st.devices
  history : st'.history = st.history
  report : st'.report = st.report
  driver : st'.driver = st.driver

theorem Kept.refl (st : State) : Kept st st := by constructor <;> rfl

theorem Kept.trans {u v w : State} (h₁ : Kept u v) (h₂ : Kept v w) : Kept u w where
  ir := h₂.ir.trans h₁.ir
  nmiLine := h₂.nmiLine.trans h₁.nmiLine
  irqLines := h₂.irqLines.trans h₁.irqLines
  nmiPrev := h₂.nmiPrev.trans h₁.nmiPrev
  nmiPending := h₂.nmiPending.trans h₁.nmiPending
  intPending := h₂.intPending.trans h₁.intPending
  intVector := h₂.intVector.trans h₁.intVector
  suspend := h₂.suspend.trans h₁.suspend
  run := h₂.run.trans h₁.run
  resetReq := h₂.resetReq.trans h₁.resetReq
  position := h₂.position.trans h₁.position
  sched := h₂.sched.trans h₁.sched
  active := h₂.active.trans h₁.active
  others := h₂.others.trans h₁.others
  mem := h₂.mem.trans h₁.mem
  devices := h₂.devices.trans h₁.devices
  history := h₂.history.trans h₁.history
  report := h₂.report.trans h₁.report
  driver := h₂.driver.trans h₁.driver

/-- A line of an instruction, an entry or a reset sequence: bank 0 (R60), and only register updates after it. -/
structure Plain (m : Micro) : Prop where
  bank : ∀ u, (m.txn u).bank = 0
  after : ∀ d u, Kept u (m.after d u)

/-- An operation on the operand that only updates registers. -/
def PlainOp (op : ReadOp) : Prop := ∀ d u, Kept u (op d u)

/-- All lines are plain. -/
def AllPlain (lines : List Micro) : Prop := ∀ m ∈ lines, Plain m

theorem allPlain_nil : AllPlain [] := by intro m hm; cases hm

theorem allPlain_cons {m : Micro} {rest : List Micro} (h : Plain m) (hr : AllPlain rest) : AllPlain (m :: rest) := by
  intro m' hm
  rcases List.mem_cons.mp hm with rfl | hm
  · exact h
  · exact hr _ hm

theorem allPlain_append {l r : List Micro} (hl : AllPlain l) (hr : AllPlain r) : AllPlain (l ++ r) := by
  intro m hm
  rcases List.mem_append.mp hm with hm | hm
  · exact hl m hm
  · exact hr m hm

theorem plain_dummyPc : Plain dummyPc := ⟨fun _ => rfl, fun _ u => Kept.refl u⟩

theorem plain_dummyStack : Plain dummyStack := ⟨fun _ => rfl, fun _ u => Kept.refl u⟩

theorem plain_dummyStackInc : Plain dummyStackInc := ⟨fun _ => rfl, fun _ _ => by constructor <;> rfl⟩

theorem plain_fetchByte {f : Byte → State → State} (hf : PlainOp f) : Plain (fetchByte f) :=
  ⟨fun _ => rfl, fun d u => Kept.trans (by constructor <;> rfl) (hf d { u with pc := u.pc + 1 })⟩

theorem plain_pullInc {f : Byte → State → State} (hf : PlainOp f) : Plain (pullInc f) :=
  ⟨fun _ => rfl, fun d u => Kept.trans (by constructor <;> rfl) (hf d { u with s := u.s + 1 })⟩

theorem plain_pullLast {f : Byte → State → State} (hf : PlainOp f) : Plain (pullLast f) := ⟨fun _ => rfl, hf⟩

theorem plain_pushByte {v : State → Byte} {f : State → State} (hf : ∀ u, Kept u (f u)) : Plain (pushByte v f) :=
  ⟨fun _ => rfl, fun _ u => Kept.trans (by constructor <;> rfl) (hf { u with s := u.s - 1 })⟩

theorem plain_resetStack {f : State → State} (hf : ∀ u, Kept u (f u)) : Plain (resetStack f) :=
  ⟨fun _ => rfl, fun _ u => Kept.trans (by constructor <;> rfl) (hf { u with s := u.s - 1 })⟩

theorem plain_vectorLo (vec : State → Word) : Plain (vectorLo vec) := ⟨fun _ => rfl, fun _ _ => by constructor <;> rfl⟩

theorem plain_vectorHi (vec : State → Word) : Plain (vectorHi vec) := ⟨fun _ => rfl, fun _ _ => by constructor <;> rfl⟩

theorem kept_setI (u : State) : Kept u (setI u) := by constructor <;> rfl

theorem kept_fixPage (u : State) : Kept u (fixPage u) := by
  unfold fixPage; split <;> constructor <;> rfl

theorem kept_opr {op : ReadOp} (h : PlainOp op) (d : Byte) (u : State) : Kept u (op d { u with opr := d }) :=
  Kept.trans (by constructor <;> rfl) (h d { u with opr := d })

/-- A read-modify-write operation that only updates registers. -/
def PlainRmw (op : RmwOp) : Prop := (∀ d u, Kept u (op.modify d u).2) ∧ PlainOp op.after

theorem allPlain_readEa {op : ReadOp} (h : PlainOp op) : AllPlain (readEa op) :=
  allPlain_cons ⟨fun _ => rfl, fun d u => kept_opr h d u⟩ allPlain_nil

theorem allPlain_writeEa (v : StoreValue) : AllPlain (writeEa v) :=
  allPlain_cons ⟨fun _ => rfl, fun _ u => Kept.refl u⟩ allPlain_nil

theorem allPlain_modifyEa {op : RmwOp} (h : PlainRmw op) : AllPlain (modifyEa op) :=
  allPlain_cons ⟨fun _ => rfl, fun _ _ => by constructor <;> rfl⟩ <|
    allPlain_cons ⟨fun _ => rfl, fun _ u => Kept.trans (h.1 u.opr u) (by constructor <;> rfl)⟩ <|
      allPlain_cons ⟨fun _ => rfl, fun _ u => h.2 u.latch.r u⟩ allPlain_nil

theorem allPlain_implied {op : State → State} (h : ∀ u, Kept u (op u)) : AllPlain (implied op) :=
  allPlain_cons ⟨fun _ => rfl, fun _ u => h u⟩ allPlain_nil

theorem allPlain_accumulator (f : Flags → Byte → Byte × Flags) : AllPlain (accumulator f) :=
  allPlain_implied fun _ => by constructor <;> rfl

theorem allPlain_immediate {op : ReadOp} (h : PlainOp op) : AllPlain (immediate op) :=
  allPlain_cons (plain_fetchByte fun d u => kept_opr h d u) allPlain_nil

theorem plain_fetchZeroPage : Plain fetchZeroPage := plain_fetchByte fun _ _ => by constructor <;> rfl

theorem allPlain_zeroPageIndexed (idx : Index) : AllPlain (zeroPageIndexed idx) :=
  allPlain_cons plain_fetchZeroPage <|
    allPlain_cons ⟨fun _ => rfl, fun _ _ => by constructor <;> rfl⟩ allPlain_nil

theorem allPlain_absoluteAddr : AllPlain absoluteAddr :=
  allPlain_cons (plain_fetchByte fun _ _ => by constructor <;> rfl) <|
    allPlain_cons (plain_fetchByte fun _ _ => by constructor <;> rfl) allPlain_nil

theorem allPlain_absoluteIndexed (idx : Index) {g : State → State} (hg : ∀ u, Kept u (g u)) :
    AllPlain (absoluteIndexed idx g) :=
  allPlain_cons (plain_fetchByte fun _ _ => by constructor <;> rfl) <|
    allPlain_cons (plain_fetchByte fun _ _ => Kept.trans (by constructor <;> rfl) (hg _)) allPlain_nil

theorem allPlain_indexedIndirect : AllPlain indexedIndirect :=
  allPlain_cons (plain_fetchByte fun _ _ => by constructor <;> rfl) <|
    allPlain_cons ⟨fun _ => rfl, fun _ _ => by constructor <;> rfl⟩ <|
      allPlain_cons ⟨fun _ => rfl, fun _ _ => by constructor <;> rfl⟩ <|
        allPlain_cons ⟨fun _ => rfl, fun _ _ => by constructor <;> rfl⟩ allPlain_nil

theorem allPlain_indirectIndexed : AllPlain indirectIndexed :=
  allPlain_cons (plain_fetchByte fun _ _ => by constructor <;> rfl) <|
    allPlain_cons ⟨fun _ => rfl, fun _ _ => by constructor <;> rfl⟩ <|
      allPlain_cons ⟨fun _ => rfl, fun _ _ => by constructor <;> rfl⟩ allPlain_nil

theorem allPlain_readIndexed {op : ReadOp} (h : PlainOp op) : AllPlain (readIndexed op) := by
  refine allPlain_cons ⟨fun _ => rfl, fun d u => ?_⟩ (allPlain_readEa h)
  show Kept u (if u.latch.c then fixPage { u with opr := d } else op d { u with opr := d })
  split
  · exact Kept.trans (by constructor <;> rfl) (kept_fixPage _)
  · exact kept_opr h d u

theorem plain_dummyTentative : Plain dummyTentative := ⟨fun _ => rfl, fun _ u => kept_fixPage u⟩

theorem allPlain_writeHighAnd (reg : StoreValue) : AllPlain (writeHighAnd reg) :=
  allPlain_cons ⟨fun _ => rfl, fun _ u => Kept.refl u⟩ allPlain_nil

theorem allPlain_branch (cond : Flags → Bool) : AllPlain (branch cond) :=
  allPlain_cons ⟨fun _ => rfl, fun _ _ => by constructor <;> rfl⟩ <|
    allPlain_cons ⟨fun _ => rfl, fun _ _ => by constructor <;> rfl⟩ <|
      allPlain_cons ⟨fun _ => rfl, fun _ _ => by constructor <;> rfl⟩ allPlain_nil

theorem allPlain_entryLines : AllPlain entryLines :=
  allPlain_cons plain_dummyPc <| allPlain_cons plain_dummyPc <|
    allPlain_cons (plain_pushByte Kept.refl) <| allPlain_cons (plain_pushByte Kept.refl) <|
      allPlain_cons (plain_pushByte kept_setI) <| allPlain_cons (plain_vectorLo _) <|
        allPlain_cons (plain_vectorHi _) allPlain_nil

theorem allPlain_resetLines : AllPlain resetLines :=
  allPlain_cons plain_dummyPc <| allPlain_cons plain_dummyPc <|
    allPlain_cons (plain_resetStack Kept.refl) <| allPlain_cons (plain_resetStack Kept.refl) <|
      allPlain_cons (plain_resetStack kept_setI) <| allPlain_cons (plain_vectorLo _) <|
        allPlain_cons (plain_vectorHi _) allPlain_nil

/-! ### The operations of the instructions -/

theorem plainOp_loadA : PlainOp loadA := fun _ _ => by constructor <;> rfl
theorem plainOp_loadX : PlainOp loadX := fun _ _ => by constructor <;> rfl
theorem plainOp_loadY : PlainOp loadY := fun _ _ => by constructor <;> rfl
theorem plainOp_adcOp : PlainOp adcOp := fun _ _ => by constructor <;> rfl
theorem plainOp_sbcOp : PlainOp sbcOp := fun _ _ => by constructor <;> rfl
theorem plainOp_andOp : PlainOp andOp := fun _ _ => by constructor <;> rfl
theorem plainOp_oraOp : PlainOp oraOp := fun _ _ => by constructor <;> rfl
theorem plainOp_eorOp : PlainOp eorOp := fun _ _ => by constructor <;> rfl
theorem plainOp_cmpOp : PlainOp cmpOp := fun _ _ => by constructor <;> rfl
theorem plainOp_cpxOp : PlainOp cpxOp := fun _ _ => by constructor <;> rfl
theorem plainOp_cpyOp : PlainOp cpyOp := fun _ _ => by constructor <;> rfl
theorem plainOp_bitOp : PlainOp bitOp := fun _ _ => by constructor <;> rfl
theorem plainOp_laxOp : PlainOp laxOp := fun _ _ => by constructor <;> rfl
theorem plainOp_ancOp : PlainOp ancOp := fun _ _ => by constructor <;> rfl
theorem plainOp_alrOp : PlainOp alrOp := fun _ _ => by constructor <;> rfl
theorem plainOp_arrOp : PlainOp arrOp := fun _ _ => by constructor <;> rfl
theorem plainOp_aneOp : PlainOp aneOp := fun _ _ => by constructor <;> rfl
theorem plainOp_lxaOp : PlainOp lxaOp := fun _ _ => by constructor <;> rfl
theorem plainOp_sbxOp : PlainOp sbxOp := fun _ _ => by constructor <;> rfl
theorem plainOp_lasOp : PlainOp lasOp := fun _ _ => by constructor <;> rfl
theorem plainOp_discard : PlainOp discard := fun _ _ => by constructor <;> rfl

theorem plainOp_id : PlainOp fun _ u => u := fun _ u => Kept.refl u

theorem plainRmw_incOp : PlainRmw incOp := ⟨fun _ _ => by constructor <;> rfl, fun _ _ => by constructor <;> rfl⟩
theorem plainRmw_decOp : PlainRmw decOp := ⟨fun _ _ => by constructor <;> rfl, fun _ _ => by constructor <;> rfl⟩
theorem plainRmw_aslOp : PlainRmw aslOp := ⟨fun _ _ => by constructor <;> rfl, fun _ _ => by constructor <;> rfl⟩
theorem plainRmw_lsrOp : PlainRmw lsrOp := ⟨fun _ _ => by constructor <;> rfl, fun _ _ => by constructor <;> rfl⟩
theorem plainRmw_rolOp : PlainRmw rolOp := ⟨fun _ _ => by constructor <;> rfl, fun _ _ => by constructor <;> rfl⟩
theorem plainRmw_rorOp : PlainRmw rorOp := ⟨fun _ _ => by constructor <;> rfl, fun _ _ => by constructor <;> rfl⟩
theorem plainRmw_dcpOp : PlainRmw dcpOp := ⟨fun _ _ => by constructor <;> rfl, fun _ _ => by constructor <;> rfl⟩
theorem plainRmw_iscOp : PlainRmw iscOp := ⟨fun _ _ => by constructor <;> rfl, fun _ _ => by constructor <;> rfl⟩
theorem plainRmw_sloOp : PlainRmw sloOp := ⟨fun _ _ => by constructor <;> rfl, fun _ _ => by constructor <;> rfl⟩
theorem plainRmw_rlaOp : PlainRmw rlaOp := ⟨fun _ _ => by constructor <;> rfl, fun _ _ => by constructor <;> rfl⟩
theorem plainRmw_sreOp : PlainRmw sreOp := ⟨fun _ _ => by constructor <;> rfl, fun _ _ => by constructor <;> rfl⟩
theorem plainRmw_rraOp : PlainRmw rraOp := ⟨fun _ _ => by constructor <;> rfl, fun _ _ => by constructor <;> rfl⟩

theorem kept_clcOp (u : State) : Kept u (clcOp u) := by constructor <;> rfl
theorem kept_cldOp (u : State) : Kept u (cldOp u) := by constructor <;> rfl
theorem kept_cliOp (u : State) : Kept u (cliOp u) := by constructor <;> rfl
theorem kept_clvOp (u : State) : Kept u (clvOp u) := by constructor <;> rfl
theorem kept_dexOp (u : State) : Kept u (dexOp u) := by constructor <;> rfl
theorem kept_deyOp (u : State) : Kept u (deyOp u) := by constructor <;> rfl
theorem kept_inxOp (u : State) : Kept u (inxOp u) := by constructor <;> rfl
theorem kept_inyOp (u : State) : Kept u (inyOp u) := by constructor <;> rfl
theorem kept_secOp (u : State) : Kept u (secOp u) := by constructor <;> rfl
theorem kept_sedOp (u : State) : Kept u (sedOp u) := by constructor <;> rfl
theorem kept_seiOp (u : State) : Kept u (seiOp u) := by constructor <;> rfl
theorem kept_taxOp (u : State) : Kept u (taxOp u) := by constructor <;> rfl
theorem kept_tayOp (u : State) : Kept u (tayOp u) := by constructor <;> rfl
theorem kept_tsxOp (u : State) : Kept u (tsxOp u) := by constructor <;> rfl
theorem kept_txaOp (u : State) : Kept u (txaOp u) := by constructor <;> rfl
theorem kept_txsOp (u : State) : Kept u (txsOp u) := by constructor <;> rfl
theorem kept_tyaOp (u : State) : Kept u (tyaOp u) := by constructor <;> rfl
theorem kept_tasOp (u : State) : Kept u (tasOp u) := by constructor <;> rfl

/-! ### The procedures of the modes -/

theorem allPlain_zeroPageRead {op : ReadOp} (h : PlainOp op) : AllPlain (zeroPageRead op) :=
  allPlain_cons plain_fetchZeroPage (allPlain_readEa h)

theorem allPlain_zeroPageIndexedRead (idx : Index) {op : ReadOp} (h : PlainOp op) : AllPlain (zeroPageIndexedRead idx op) :=
  allPlain_append (allPlain_zeroPageIndexed idx) (allPlain_readEa h)

theorem allPlain_absoluteRead {op : ReadOp} (h : PlainOp op) : AllPlain (absoluteRead op) :=
  allPlain_append (allPlain_absoluteAddr) (allPlain_readEa h)

theorem allPlain_absoluteIndexedRead (idx : Index) {op : ReadOp} (h : PlainOp op) : AllPlain (absoluteIndexedRead idx op) :=
  allPlain_append (allPlain_absoluteIndexed idx Kept.refl) (allPlain_readIndexed h)

theorem allPlain_indexedIndirectRead {op : ReadOp} (h : PlainOp op) : AllPlain (indexedIndirectRead op) :=
  allPlain_append (allPlain_indexedIndirect) (allPlain_readEa h)

theorem allPlain_indirectIndexedRead {op : ReadOp} (h : PlainOp op) : AllPlain (indirectIndexedRead op) :=
  allPlain_append (allPlain_indirectIndexed) (allPlain_readIndexed h)

theorem allPlain_zeroPageWrite (v : StoreValue) : AllPlain (zeroPageWrite v) :=
  allPlain_cons plain_fetchZeroPage (allPlain_writeEa v)

theorem allPlain_zeroPageIndexedWrite (idx : Index) (v : StoreValue) : AllPlain (zeroPageIndexedWrite idx v) :=
  allPlain_append (allPlain_zeroPageIndexed idx) (allPlain_writeEa v)

theorem allPlain_absoluteWrite (v : StoreValue) : AllPlain (absoluteWrite v) :=
  allPlain_append (allPlain_absoluteAddr) (allPlain_writeEa v)

theorem allPlain_absoluteIndexedWrite (idx : Index) (v : StoreValue) : AllPlain (absoluteIndexedWrite idx v) :=
  allPlain_append (allPlain_absoluteIndexed idx Kept.refl) (allPlain_cons plain_dummyTentative (allPlain_writeEa v))

theorem allPlain_indexedIndirectWrite (v : StoreValue) : AllPlain (indexedIndirectWrite v) :=
  allPlain_append (allPlain_indexedIndirect) (allPlain_writeEa v)

theorem allPlain_indirectIndexedWrite (v : StoreValue) : AllPlain (indirectIndexedWrite v) :=
  allPlain_append (allPlain_indirectIndexed) (allPlain_cons plain_dummyTentative (allPlain_writeEa v))

theorem allPlain_zeroPageModify {op : RmwOp} (h : PlainRmw op) : AllPlain (zeroPageModify op) :=
  allPlain_cons plain_fetchZeroPage (allPlain_modifyEa h)

theorem allPlain_zeroPageIndexedModify (idx : Index) {op : RmwOp} (h : PlainRmw op) : AllPlain (zeroPageIndexedModify idx op) :=
  allPlain_append (allPlain_zeroPageIndexed idx) (allPlain_modifyEa h)

theorem allPlain_absoluteModify {op : RmwOp} (h : PlainRmw op) : AllPlain (absoluteModify op) :=
  allPlain_append (allPlain_absoluteAddr) (allPlain_modifyEa h)

theorem allPlain_absoluteIndexedModify (idx : Index) {op : RmwOp} (h : PlainRmw op) : AllPlain (absoluteIndexedModify idx op) :=
  allPlain_append (allPlain_absoluteIndexed idx Kept.refl) (allPlain_cons plain_dummyTentative (allPlain_modifyEa h))

theorem allPlain_indexedIndirectModify {op : RmwOp} (h : PlainRmw op) : AllPlain (indexedIndirectModify op) :=
  allPlain_append (allPlain_indexedIndirect) (allPlain_modifyEa h)

theorem allPlain_indirectIndexedModify {op : RmwOp} (h : PlainRmw op) : AllPlain (indirectIndexedModify op) :=
  allPlain_append (allPlain_indirectIndexed) (allPlain_cons plain_dummyTentative (allPlain_modifyEa h))

theorem allPlain_absoluteIndexedHighAnd (idx : Index) (reg : StoreValue) {g : State → State} (hg : ∀ u, Kept u (g u)) :
    AllPlain (absoluteIndexedHighAnd idx reg g) :=
  allPlain_append (allPlain_absoluteIndexed idx hg) (allPlain_cons plain_dummyTentative (allPlain_writeHighAnd reg))

theorem allPlain_indirectIndexedHighAnd (reg : StoreValue) : AllPlain (indirectIndexedHighAnd reg) :=
  allPlain_append allPlain_indirectIndexed (allPlain_cons plain_dummyTentative (allPlain_writeHighAnd reg))

theorem allPlain_returnLines : AllPlain returnLines :=
  allPlain_cons plain_dummyPc <| allPlain_cons plain_dummyStackInc <|
    allPlain_cons (plain_pullInc fun _ _ => by constructor <;> rfl) <|
      allPlain_cons (plain_pullInc fun _ _ => by constructor <;> rfl) <|
        allPlain_cons (plain_pullLast fun _ _ => by constructor <;> rfl) allPlain_nil

theorem allPlain_jmpLines : AllPlain jmpLines :=
  allPlain_cons (plain_fetchByte fun _ _ => by constructor <;> rfl) <|
    allPlain_cons ⟨fun _ => rfl, fun _ _ => by constructor <;> rfl⟩ allPlain_nil

theorem allPlain_jmpIndirectLines : AllPlain jmpIndirectLines :=
  allPlain_cons (plain_fetchByte fun _ _ => by constructor <;> rfl) <|
    allPlain_cons (plain_fetchByte fun _ _ => by constructor <;> rfl) <|
      allPlain_cons ⟨fun _ => rfl, fun _ _ => by constructor <;> rfl⟩ <|
        allPlain_cons ⟨fun _ => rfl, fun _ _ => by constructor <;> rfl⟩ allPlain_nil

theorem allPlain_jsrLines : AllPlain jsrLines :=
  allPlain_cons (plain_fetchByte fun _ _ => by constructor <;> rfl) <|
    allPlain_cons plain_dummyStack <|
      allPlain_cons (plain_pushByte Kept.refl) <| allPlain_cons (plain_pushByte Kept.refl) <|
        allPlain_cons ⟨fun _ => rfl, fun _ _ => by constructor <;> rfl⟩ allPlain_nil

theorem allPlain_rtsLines : AllPlain rtsLines :=
  allPlain_cons plain_dummyPc <| allPlain_cons plain_dummyStackInc <|
    allPlain_cons (plain_pullInc fun _ _ => by constructor <;> rfl) <|
      allPlain_cons (plain_pullLast fun _ _ => by constructor <;> rfl) <|
        allPlain_cons (plain_fetchByte plainOp_id) allPlain_nil

theorem allPlain_brkLines : AllPlain brkLines :=
  allPlain_cons (plain_fetchByte plainOp_id) <|
    allPlain_cons (plain_pushByte Kept.refl) <| allPlain_cons (plain_pushByte Kept.refl) <|
      allPlain_cons (plain_pushByte kept_setI) <| allPlain_cons (plain_vectorLo _) <|
        allPlain_cons (plain_vectorHi _) allPlain_nil

theorem allPlain_phaLines : AllPlain phaLines :=
  allPlain_cons plain_dummyPc <| allPlain_cons (plain_pushByte Kept.refl) allPlain_nil

theorem allPlain_phpLines : AllPlain phpLines :=
  allPlain_cons plain_dummyPc <| allPlain_cons (plain_pushByte Kept.refl) allPlain_nil

theorem allPlain_plaLines : AllPlain plaLines :=
  allPlain_cons plain_dummyPc <| allPlain_cons plain_dummyStackInc <|
    allPlain_cons (plain_pullLast fun _ _ => by constructor <;> rfl) allPlain_nil

theorem allPlain_plpLines : AllPlain plpLines :=
  allPlain_cons plain_dummyPc <| allPlain_cons plain_dummyStackInc <|
    allPlain_cons (plain_pullLast fun _ _ => by constructor <;> rfl) allPlain_nil

/-! ### Every instruction is a sequence or the jam -/

/-- Every instruction is a sequence of plain lines, one for each transaction after the opcode fetch that the map allows
it at most, or the jam. -/
theorem exec_shape (i : Instr) :
    (i.accessClass = .jam ∧ ∀ s, exec i s = jam s) ∨
    ∃ lines, AllPlain lines ∧ lines.length + 1 = maxCount i ∧ ∀ s, exec i s = runInstr lines s := by
  cases i with
  | brk => exact .inr ⟨_, allPlain_brkLines, rfl, fun _ => rfl⟩
  | oraIzx => exact .inr ⟨_, allPlain_indexedIndirectRead plainOp_oraOp, rfl, fun _ => rfl⟩
  | jam02 => exact .inl ⟨rfl, fun _ => rfl⟩
  | sloIzx => exact .inr ⟨_, allPlain_indexedIndirectModify plainRmw_sloOp, rfl, fun _ => rfl⟩
  | nopZp04 => exact .inr ⟨_, allPlain_zeroPageRead plainOp_discard, rfl, fun _ => rfl⟩
  | oraZp => exact .inr ⟨_, allPlain_zeroPageRead plainOp_oraOp, rfl, fun _ => rfl⟩
  | aslZp => exact .inr ⟨_, allPlain_zeroPageModify plainRmw_aslOp, rfl, fun _ => rfl⟩
  | sloZp => exact .inr ⟨_, allPlain_zeroPageModify plainRmw_sloOp, rfl, fun _ => rfl⟩
  | php => exact .inr ⟨_, allPlain_phpLines, rfl, fun _ => rfl⟩
  | oraImm => exact .inr ⟨_, allPlain_immediate plainOp_oraOp, rfl, fun _ => rfl⟩
  | aslAcc => exact .inr ⟨_, allPlain_accumulator _, rfl, fun _ => rfl⟩
  | ancImm0B => exact .inr ⟨_, allPlain_immediate plainOp_ancOp, rfl, fun _ => rfl⟩
  | nopAbs0C => exact .inr ⟨_, allPlain_absoluteRead plainOp_discard, rfl, fun _ => rfl⟩
  | oraAbs => exact .inr ⟨_, allPlain_absoluteRead plainOp_oraOp, rfl, fun _ => rfl⟩
  | aslAbs => exact .inr ⟨_, allPlain_absoluteModify plainRmw_aslOp, rfl, fun _ => rfl⟩
  | sloAbs => exact .inr ⟨_, allPlain_absoluteModify plainRmw_sloOp, rfl, fun _ => rfl⟩
  | bpl => exact .inr ⟨_, allPlain_branch _, rfl, fun _ => rfl⟩
  | oraIzy => exact .inr ⟨_, allPlain_indirectIndexedRead plainOp_oraOp, rfl, fun _ => rfl⟩
  | jam12 => exact .inl ⟨rfl, fun _ => rfl⟩
  | sloIzy => exact .inr ⟨_, allPlain_indirectIndexedModify plainRmw_sloOp, rfl, fun _ => rfl⟩
  | nopZpx14 => exact .inr ⟨_, allPlain_zeroPageIndexedRead _ plainOp_discard, rfl, fun _ => rfl⟩
  | oraZpx => exact .inr ⟨_, allPlain_zeroPageIndexedRead _ plainOp_oraOp, rfl, fun _ => rfl⟩
  | aslZpx => exact .inr ⟨_, allPlain_zeroPageIndexedModify _ plainRmw_aslOp, rfl, fun _ => rfl⟩
  | sloZpx => exact .inr ⟨_, allPlain_zeroPageIndexedModify _ plainRmw_sloOp, rfl, fun _ => rfl⟩
  | clc => exact .inr ⟨_, allPlain_implied kept_clcOp, rfl, fun _ => rfl⟩
  | oraAby => exact .inr ⟨_, allPlain_absoluteIndexedRead _ plainOp_oraOp, rfl, fun _ => rfl⟩
  | nopImp1A => exact .inr ⟨_, allPlain_implied Kept.refl, rfl, fun _ => rfl⟩
  | sloAby => exact .inr ⟨_, allPlain_absoluteIndexedModify _ plainRmw_sloOp, rfl, fun _ => rfl⟩
  | nopAbx1C => exact .inr ⟨_, allPlain_absoluteIndexedRead _ plainOp_discard, rfl, fun _ => rfl⟩
  | oraAbx => exact .inr ⟨_, allPlain_absoluteIndexedRead _ plainOp_oraOp, rfl, fun _ => rfl⟩
  | aslAbx => exact .inr ⟨_, allPlain_absoluteIndexedModify _ plainRmw_aslOp, rfl, fun _ => rfl⟩
  | sloAbx => exact .inr ⟨_, allPlain_absoluteIndexedModify _ plainRmw_sloOp, rfl, fun _ => rfl⟩
  | jsr => exact .inr ⟨_, allPlain_jsrLines, rfl, fun _ => rfl⟩
  | andIzx => exact .inr ⟨_, allPlain_indexedIndirectRead plainOp_andOp, rfl, fun _ => rfl⟩
  | jam22 => exact .inl ⟨rfl, fun _ => rfl⟩
  | rlaIzx => exact .inr ⟨_, allPlain_indexedIndirectModify plainRmw_rlaOp, rfl, fun _ => rfl⟩
  | bitZp => exact .inr ⟨_, allPlain_zeroPageRead plainOp_bitOp, rfl, fun _ => rfl⟩
  | andZp => exact .inr ⟨_, allPlain_zeroPageRead plainOp_andOp, rfl, fun _ => rfl⟩
  | rolZp => exact .inr ⟨_, allPlain_zeroPageModify plainRmw_rolOp, rfl, fun _ => rfl⟩
  | rlaZp => exact .inr ⟨_, allPlain_zeroPageModify plainRmw_rlaOp, rfl, fun _ => rfl⟩
  | plp => exact .inr ⟨_, allPlain_plpLines, rfl, fun _ => rfl⟩
  | andImm => exact .inr ⟨_, allPlain_immediate plainOp_andOp, rfl, fun _ => rfl⟩
  | rolAcc => exact .inr ⟨_, allPlain_accumulator _, rfl, fun _ => rfl⟩
  | ancImm2B => exact .inr ⟨_, allPlain_immediate plainOp_ancOp, rfl, fun _ => rfl⟩
  | bitAbs => exact .inr ⟨_, allPlain_absoluteRead plainOp_bitOp, rfl, fun _ => rfl⟩
  | andAbs => exact .inr ⟨_, allPlain_absoluteRead plainOp_andOp, rfl, fun _ => rfl⟩
  | rolAbs => exact .inr ⟨_, allPlain_absoluteModify plainRmw_rolOp, rfl, fun _ => rfl⟩
  | rlaAbs => exact .inr ⟨_, allPlain_absoluteModify plainRmw_rlaOp, rfl, fun _ => rfl⟩
  | bmi => exact .inr ⟨_, allPlain_branch _, rfl, fun _ => rfl⟩
  | andIzy => exact .inr ⟨_, allPlain_indirectIndexedRead plainOp_andOp, rfl, fun _ => rfl⟩
  | jam32 => exact .inl ⟨rfl, fun _ => rfl⟩
  | rlaIzy => exact .inr ⟨_, allPlain_indirectIndexedModify plainRmw_rlaOp, rfl, fun _ => rfl⟩
  | nopZpx34 => exact .inr ⟨_, allPlain_zeroPageIndexedRead _ plainOp_discard, rfl, fun _ => rfl⟩
  | andZpx => exact .inr ⟨_, allPlain_zeroPageIndexedRead _ plainOp_andOp, rfl, fun _ => rfl⟩
  | rolZpx => exact .inr ⟨_, allPlain_zeroPageIndexedModify _ plainRmw_rolOp, rfl, fun _ => rfl⟩
  | rlaZpx => exact .inr ⟨_, allPlain_zeroPageIndexedModify _ plainRmw_rlaOp, rfl, fun _ => rfl⟩
  | sec => exact .inr ⟨_, allPlain_implied kept_secOp, rfl, fun _ => rfl⟩
  | andAby => exact .inr ⟨_, allPlain_absoluteIndexedRead _ plainOp_andOp, rfl, fun _ => rfl⟩
  | nopImp3A => exact .inr ⟨_, allPlain_implied Kept.refl, rfl, fun _ => rfl⟩
  | rlaAby => exact .inr ⟨_, allPlain_absoluteIndexedModify _ plainRmw_rlaOp, rfl, fun _ => rfl⟩
  | nopAbx3C => exact .inr ⟨_, allPlain_absoluteIndexedRead _ plainOp_discard, rfl, fun _ => rfl⟩
  | andAbx => exact .inr ⟨_, allPlain_absoluteIndexedRead _ plainOp_andOp, rfl, fun _ => rfl⟩
  | rolAbx => exact .inr ⟨_, allPlain_absoluteIndexedModify _ plainRmw_rolOp, rfl, fun _ => rfl⟩
  | rlaAbx => exact .inr ⟨_, allPlain_absoluteIndexedModify _ plainRmw_rlaOp, rfl, fun _ => rfl⟩
  | rti => exact .inr ⟨_, allPlain_returnLines, rfl, fun _ => rfl⟩
  | eorIzx => exact .inr ⟨_, allPlain_indexedIndirectRead plainOp_eorOp, rfl, fun _ => rfl⟩
  | jam42 => exact .inl ⟨rfl, fun _ => rfl⟩
  | sreIzx => exact .inr ⟨_, allPlain_indexedIndirectModify plainRmw_sreOp, rfl, fun _ => rfl⟩
  | nopZp44 => exact .inr ⟨_, allPlain_zeroPageRead plainOp_discard, rfl, fun _ => rfl⟩
  | eorZp => exact .inr ⟨_, allPlain_zeroPageRead plainOp_eorOp, rfl, fun _ => rfl⟩
  | lsrZp => exact .inr ⟨_, allPlain_zeroPageModify plainRmw_lsrOp, rfl, fun _ => rfl⟩
  | sreZp => exact .inr ⟨_, allPlain_zeroPageModify plainRmw_sreOp, rfl, fun _ => rfl⟩
  | pha => exact .inr ⟨_, allPlain_phaLines, rfl, fun _ => rfl⟩
  | eorImm => exact .inr ⟨_, allPlain_immediate plainOp_eorOp, rfl, fun _ => rfl⟩
  | lsrAcc => exact .inr ⟨_, allPlain_accumulator _, rfl, fun _ => rfl⟩
  | alr => exact .inr ⟨_, allPlain_immediate plainOp_alrOp, rfl, fun _ => rfl⟩
  | jmpAbs => exact .inr ⟨_, allPlain_jmpLines, rfl, fun _ => rfl⟩
  | eorAbs => exact .inr ⟨_, allPlain_absoluteRead plainOp_eorOp, rfl, fun _ => rfl⟩
  | lsrAbs => exact .inr ⟨_, allPlain_absoluteModify plainRmw_lsrOp, rfl, fun _ => rfl⟩
  | sreAbs => exact .inr ⟨_, allPlain_absoluteModify plainRmw_sreOp, rfl, fun _ => rfl⟩
  | bvc => exact .inr ⟨_, allPlain_branch _, rfl, fun _ => rfl⟩
  | eorIzy => exact .inr ⟨_, allPlain_indirectIndexedRead plainOp_eorOp, rfl, fun _ => rfl⟩
  | jam52 => exact .inl ⟨rfl, fun _ => rfl⟩
  | sreIzy => exact .inr ⟨_, allPlain_indirectIndexedModify plainRmw_sreOp, rfl, fun _ => rfl⟩
  | nopZpx54 => exact .inr ⟨_, allPlain_zeroPageIndexedRead _ plainOp_discard, rfl, fun _ => rfl⟩
  | eorZpx => exact .inr ⟨_, allPlain_zeroPageIndexedRead _ plainOp_eorOp, rfl, fun _ => rfl⟩
  | lsrZpx => exact .inr ⟨_, allPlain_zeroPageIndexedModify _ plainRmw_lsrOp, rfl, fun _ => rfl⟩
  | sreZpx => exact .inr ⟨_, allPlain_zeroPageIndexedModify _ plainRmw_sreOp, rfl, fun _ => rfl⟩
  | cli => exact .inr ⟨_, allPlain_implied kept_cliOp, rfl, fun _ => rfl⟩
  | eorAby => exact .inr ⟨_, allPlain_absoluteIndexedRead _ plainOp_eorOp, rfl, fun _ => rfl⟩
  | nopImp5A => exact .inr ⟨_, allPlain_implied Kept.refl, rfl, fun _ => rfl⟩
  | sreAby => exact .inr ⟨_, allPlain_absoluteIndexedModify _ plainRmw_sreOp, rfl, fun _ => rfl⟩
  | nopAbx5C => exact .inr ⟨_, allPlain_absoluteIndexedRead _ plainOp_discard, rfl, fun _ => rfl⟩
  | eorAbx => exact .inr ⟨_, allPlain_absoluteIndexedRead _ plainOp_eorOp, rfl, fun _ => rfl⟩
  | lsrAbx => exact .inr ⟨_, allPlain_absoluteIndexedModify _ plainRmw_lsrOp, rfl, fun _ => rfl⟩
  | sreAbx => exact .inr ⟨_, allPlain_absoluteIndexedModify _ plainRmw_sreOp, rfl, fun _ => rfl⟩
  | rts => exact .inr ⟨_, allPlain_rtsLines, rfl, fun _ => rfl⟩
  | adcIzx => exact .inr ⟨_, allPlain_indexedIndirectRead plainOp_adcOp, rfl, fun _ => rfl⟩
  | jam62 => exact .inl ⟨rfl, fun _ => rfl⟩
  | rraIzx => exact .inr ⟨_, allPlain_indexedIndirectModify plainRmw_rraOp, rfl, fun _ => rfl⟩
  | nopZp64 => exact .inr ⟨_, allPlain_zeroPageRead plainOp_discard, rfl, fun _ => rfl⟩
  | adcZp => exact .inr ⟨_, allPlain_zeroPageRead plainOp_adcOp, rfl, fun _ => rfl⟩
  | rorZp => exact .inr ⟨_, allPlain_zeroPageModify plainRmw_rorOp, rfl, fun _ => rfl⟩
  | rraZp => exact .inr ⟨_, allPlain_zeroPageModify plainRmw_rraOp, rfl, fun _ => rfl⟩
  | pla => exact .inr ⟨_, allPlain_plaLines, rfl, fun _ => rfl⟩
  | adcImm => exact .inr ⟨_, allPlain_immediate plainOp_adcOp, rfl, fun _ => rfl⟩
  | rorAcc => exact .inr ⟨_, allPlain_accumulator _, rfl, fun _ => rfl⟩
  | arr => exact .inr ⟨_, allPlain_immediate plainOp_arrOp, rfl, fun _ => rfl⟩
  | jmpInd => exact .inr ⟨_, allPlain_jmpIndirectLines, rfl, fun _ => rfl⟩
  | adcAbs => exact .inr ⟨_, allPlain_absoluteRead plainOp_adcOp, rfl, fun _ => rfl⟩
  | rorAbs => exact .inr ⟨_, allPlain_absoluteModify plainRmw_rorOp, rfl, fun _ => rfl⟩
  | rraAbs => exact .inr ⟨_, allPlain_absoluteModify plainRmw_rraOp, rfl, fun _ => rfl⟩
  | bvs => exact .inr ⟨_, allPlain_branch _, rfl, fun _ => rfl⟩
  | adcIzy => exact .inr ⟨_, allPlain_indirectIndexedRead plainOp_adcOp, rfl, fun _ => rfl⟩
  | jam72 => exact .inl ⟨rfl, fun _ => rfl⟩
  | rraIzy => exact .inr ⟨_, allPlain_indirectIndexedModify plainRmw_rraOp, rfl, fun _ => rfl⟩
  | nopZpx74 => exact .inr ⟨_, allPlain_zeroPageIndexedRead _ plainOp_discard, rfl, fun _ => rfl⟩
  | adcZpx => exact .inr ⟨_, allPlain_zeroPageIndexedRead _ plainOp_adcOp, rfl, fun _ => rfl⟩
  | rorZpx => exact .inr ⟨_, allPlain_zeroPageIndexedModify _ plainRmw_rorOp, rfl, fun _ => rfl⟩
  | rraZpx => exact .inr ⟨_, allPlain_zeroPageIndexedModify _ plainRmw_rraOp, rfl, fun _ => rfl⟩
  | sei => exact .inr ⟨_, allPlain_implied kept_seiOp, rfl, fun _ => rfl⟩
  | adcAby => exact .inr ⟨_, allPlain_absoluteIndexedRead _ plainOp_adcOp, rfl, fun _ => rfl⟩
  | nopImp7A => exact .inr ⟨_, allPlain_implied Kept.refl, rfl, fun _ => rfl⟩
  | rraAby => exact .inr ⟨_, allPlain_absoluteIndexedModify _ plainRmw_rraOp, rfl, fun _ => rfl⟩
  | nopAbx7C => exact .inr ⟨_, allPlain_absoluteIndexedRead _ plainOp_discard, rfl, fun _ => rfl⟩
  | adcAbx => exact .inr ⟨_, allPlain_absoluteIndexedRead _ plainOp_adcOp, rfl, fun _ => rfl⟩
  | rorAbx => exact .inr ⟨_, allPlain_absoluteIndexedModify _ plainRmw_rorOp, rfl, fun _ => rfl⟩
  | rraAbx => exact .inr ⟨_, allPlain_absoluteIndexedModify _ plainRmw_rraOp, rfl, fun _ => rfl⟩
  | nopImm80 => exact .inr ⟨_, allPlain_immediate plainOp_discard, rfl, fun _ => rfl⟩
  | staIzx => exact .inr ⟨_, allPlain_indexedIndirectWrite _, rfl, fun _ => rfl⟩
  | nopImm82 => exact .inr ⟨_, allPlain_immediate plainOp_discard, rfl, fun _ => rfl⟩
  | saxIzx => exact .inr ⟨_, allPlain_indexedIndirectWrite _, rfl, fun _ => rfl⟩
  | styZp => exact .inr ⟨_, allPlain_zeroPageWrite _, rfl, fun _ => rfl⟩
  | staZp => exact .inr ⟨_, allPlain_zeroPageWrite _, rfl, fun _ => rfl⟩
  | stxZp => exact .inr ⟨_, allPlain_zeroPageWrite _, rfl, fun _ => rfl⟩
  | saxZp => exact .inr ⟨_, allPlain_zeroPageWrite _, rfl, fun _ => rfl⟩
  | dey => exact .inr ⟨_, allPlain_implied kept_deyOp, rfl, fun _ => rfl⟩
  | nopImm89 => exact .inr ⟨_, allPlain_immediate plainOp_discard, rfl, fun _ => rfl⟩
  | txa => exact .inr ⟨_, allPlain_implied kept_txaOp, rfl, fun _ => rfl⟩
  | ane => exact .inr ⟨_, allPlain_immediate plainOp_aneOp, rfl, fun _ => rfl⟩
  | styAbs => exact .inr ⟨_, allPlain_absoluteWrite _, rfl, fun _ => rfl⟩
  | staAbs => exact .inr ⟨_, allPlain_absoluteWrite _, rfl, fun _ => rfl⟩
  | stxAbs => exact .inr ⟨_, allPlain_absoluteWrite _, rfl, fun _ => rfl⟩
  | saxAbs => exact .inr ⟨_, allPlain_absoluteWrite _, rfl, fun _ => rfl⟩
  | bcc => exact .inr ⟨_, allPlain_branch _, rfl, fun _ => rfl⟩
  | staIzy => exact .inr ⟨_, allPlain_indirectIndexedWrite _, rfl, fun _ => rfl⟩
  | jam92 => exact .inl ⟨rfl, fun _ => rfl⟩
  | shaIzy => exact .inr ⟨_, allPlain_indirectIndexedHighAnd _, rfl, fun _ => rfl⟩
  | styZpx => exact .inr ⟨_, allPlain_zeroPageIndexedWrite _ _, rfl, fun _ => rfl⟩
  | staZpx => exact .inr ⟨_, allPlain_zeroPageIndexedWrite _ _, rfl, fun _ => rfl⟩
  | stxZpy => exact .inr ⟨_, allPlain_zeroPageIndexedWrite _ _, rfl, fun _ => rfl⟩
  | saxZpy => exact .inr ⟨_, allPlain_zeroPageIndexedWrite _ _, rfl, fun _ => rfl⟩
  | tya => exact .inr ⟨_, allPlain_implied kept_tyaOp, rfl, fun _ => rfl⟩
  | staAby => exact .inr ⟨_, allPlain_absoluteIndexedWrite _ _, rfl, fun _ => rfl⟩
  | txs => exact .inr ⟨_, allPlain_implied kept_txsOp, rfl, fun _ => rfl⟩
  | tas => exact .inr ⟨_, allPlain_absoluteIndexedHighAnd _ _ kept_tasOp, rfl, fun _ => rfl⟩
  | shy => exact .inr ⟨_, allPlain_absoluteIndexedHighAnd _ _ Kept.refl, rfl, fun _ => rfl⟩
  | staAbx => exact .inr ⟨_, allPlain_absoluteIndexedWrite _ _, rfl, fun _ => rfl⟩
  | shx => exact .inr ⟨_, allPlain_absoluteIndexedHighAnd _ _ Kept.refl, rfl, fun _ => rfl⟩
  | shaAby => exact .inr ⟨_, allPlain_absoluteIndexedHighAnd _ _ Kept.refl, rfl, fun _ => rfl⟩
  | ldyImm => exact .inr ⟨_, allPlain_immediate plainOp_loadY, rfl, fun _ => rfl⟩
  | ldaIzx => exact .inr ⟨_, allPlain_indexedIndirectRead plainOp_loadA, rfl, fun _ => rfl⟩
  | ldxImm => exact .inr ⟨_, allPlain_immediate plainOp_loadX, rfl, fun _ => rfl⟩
  | laxIzx => exact .inr ⟨_, allPlain_indexedIndirectRead plainOp_laxOp, rfl, fun _ => rfl⟩
  | ldyZp => exact .inr ⟨_, allPlain_zeroPageRead plainOp_loadY, rfl, fun _ => rfl⟩
  | ldaZp => exact .inr ⟨_, allPlain_zeroPageRead plainOp_loadA, rfl, fun _ => rfl⟩
  | ldxZp => exact .inr ⟨_, allPlain_zeroPageRead plainOp_loadX, rfl, fun _ => rfl⟩
  | laxZp => exact .inr ⟨_, allPlain_zeroPageRead plainOp_laxOp, rfl, fun _ => rfl⟩
  | tay => exact .inr ⟨_, allPlain_implied kept_tayOp, rfl, fun _ => rfl⟩
  | ldaImm => exact .inr ⟨_, allPlain_immediate plainOp_loadA, rfl, fun _ => rfl⟩
  | tax => exact .inr ⟨_, allPlain_implied kept_taxOp, rfl, fun _ => rfl⟩
  | lxa => exact .inr ⟨_, allPlain_immediate plainOp_lxaOp, rfl, fun _ => rfl⟩
  | ldyAbs => exact .inr ⟨_, allPlain_absoluteRead plainOp_loadY, rfl, fun _ => rfl⟩
  | ldaAbs => exact .inr ⟨_, allPlain_absoluteRead plainOp_loadA, rfl, fun _ => rfl⟩
  | ldxAbs => exact .inr ⟨_, allPlain_absoluteRead plainOp_loadX, rfl, fun _ => rfl⟩
  | laxAbs => exact .inr ⟨_, allPlain_absoluteRead plainOp_laxOp, rfl, fun _ => rfl⟩
  | bcs => exact .inr ⟨_, allPlain_branch _, rfl, fun _ => rfl⟩
  | ldaIzy => exact .inr ⟨_, allPlain_indirectIndexedRead plainOp_loadA, rfl, fun _ => rfl⟩
  | jamB2 => exact .inl ⟨rfl, fun _ => rfl⟩
  | laxIzy => exact .inr ⟨_, allPlain_indirectIndexedRead plainOp_laxOp, rfl, fun _ => rfl⟩
  | ldyZpx => exact .inr ⟨_, allPlain_zeroPageIndexedRead _ plainOp_loadY, rfl, fun _ => rfl⟩
  | ldaZpx => exact .inr ⟨_, allPlain_zeroPageIndexedRead _ plainOp_loadA, rfl, fun _ => rfl⟩
  | ldxZpy => exact .inr ⟨_, allPlain_zeroPageIndexedRead _ plainOp_loadX, rfl, fun _ => rfl⟩
  | laxZpy => exact .inr ⟨_, allPlain_zeroPageIndexedRead _ plainOp_laxOp, rfl, fun _ => rfl⟩
  | clv => exact .inr ⟨_, allPlain_implied kept_clvOp, rfl, fun _ => rfl⟩
  | ldaAby => exact .inr ⟨_, allPlain_absoluteIndexedRead _ plainOp_loadA, rfl, fun _ => rfl⟩
  | tsx => exact .inr ⟨_, allPlain_implied kept_tsxOp, rfl, fun _ => rfl⟩
  | las => exact .inr ⟨_, allPlain_absoluteIndexedRead _ plainOp_lasOp, rfl, fun _ => rfl⟩
  | ldyAbx => exact .inr ⟨_, allPlain_absoluteIndexedRead _ plainOp_loadY, rfl, fun _ => rfl⟩
  | ldaAbx => exact .inr ⟨_, allPlain_absoluteIndexedRead _ plainOp_loadA, rfl, fun _ => rfl⟩
  | ldxAby => exact .inr ⟨_, allPlain_absoluteIndexedRead _ plainOp_loadX, rfl, fun _ => rfl⟩
  | laxAby => exact .inr ⟨_, allPlain_absoluteIndexedRead _ plainOp_laxOp, rfl, fun _ => rfl⟩
  | cpyImm => exact .inr ⟨_, allPlain_immediate plainOp_cpyOp, rfl, fun _ => rfl⟩
  | cmpIzx => exact .inr ⟨_, allPlain_indexedIndirectRead plainOp_cmpOp, rfl, fun _ => rfl⟩
  | nopImmC2 => exact .inr ⟨_, allPlain_immediate plainOp_discard, rfl, fun _ => rfl⟩
  | dcpIzx => exact .inr ⟨_, allPlain_indexedIndirectModify plainRmw_dcpOp, rfl, fun _ => rfl⟩
  | cpyZp => exact .inr ⟨_, allPlain_zeroPageRead plainOp_cpyOp, rfl, fun _ => rfl⟩
  | cmpZp => exact .inr ⟨_, allPlain_zeroPageRead plainOp_cmpOp, rfl, fun _ => rfl⟩
  | decZp => exact .inr ⟨_, allPlain_zeroPageModify plainRmw_decOp, rfl, fun _ => rfl⟩
  | dcpZp => exact .inr ⟨_, allPlain_zeroPageModify plainRmw_dcpOp, rfl, fun _ => rfl⟩
  | iny => exact .inr ⟨_, allPlain_implied kept_inyOp, rfl, fun _ => rfl⟩
  | cmpImm => exact .inr ⟨_, allPlain_immediate plainOp_cmpOp, rfl, fun _ => rfl⟩
  | dex => exact .inr ⟨_, allPlain_implied kept_dexOp, rfl, fun _ => rfl⟩
  | sbx => exact .inr ⟨_, allPlain_immediate plainOp_sbxOp, rfl, fun _ => rfl⟩
  | cpyAbs => exact .inr ⟨_, allPlain_absoluteRead plainOp_cpyOp, rfl, fun _ => rfl⟩
  | cmpAbs => exact .inr ⟨_, allPlain_absoluteRead plainOp_cmpOp, rfl, fun _ => rfl⟩
  | decAbs => exact .inr ⟨_, allPlain_absoluteModify plainRmw_decOp, rfl, fun _ => rfl⟩
  | dcpAbs => exact .inr ⟨_, allPlain_absoluteModify plainRmw_dcpOp, rfl, fun _ => rfl⟩
  | bne => exact .inr ⟨_, allPlain_branch _, rfl, fun _ => rfl⟩
  | cmpIzy => exact .inr ⟨_, allPlain_indirectIndexedRead plainOp_cmpOp, rfl, fun _ => rfl⟩
  | jamD2 => exact .inl ⟨rfl, fun _ => rfl⟩
  | dcpIzy => exact .inr ⟨_, allPlain_indirectIndexedModify plainRmw_dcpOp, rfl, fun _ => rfl⟩
  | nopZpxD4 => exact .inr ⟨_, allPlain_zeroPageIndexedRead _ plainOp_discard, rfl, fun _ => rfl⟩
  | cmpZpx => exact .inr ⟨_, allPlain_zeroPageIndexedRead _ plainOp_cmpOp, rfl, fun _ => rfl⟩
  | decZpx => exact .inr ⟨_, allPlain_zeroPageIndexedModify _ plainRmw_decOp, rfl, fun _ => rfl⟩
  | dcpZpx => exact .inr ⟨_, allPlain_zeroPageIndexedModify _ plainRmw_dcpOp, rfl, fun _ => rfl⟩
  | cld => exact .inr ⟨_, allPlain_implied kept_cldOp, rfl, fun _ => rfl⟩
  | cmpAby => exact .inr ⟨_, allPlain_absoluteIndexedRead _ plainOp_cmpOp, rfl, fun _ => rfl⟩
  | nopImpDA => exact .inr ⟨_, allPlain_implied Kept.refl, rfl, fun _ => rfl⟩
  | dcpAby => exact .inr ⟨_, allPlain_absoluteIndexedModify _ plainRmw_dcpOp, rfl, fun _ => rfl⟩
  | nopAbxDC => exact .inr ⟨_, allPlain_absoluteIndexedRead _ plainOp_discard, rfl, fun _ => rfl⟩
  | cmpAbx => exact .inr ⟨_, allPlain_absoluteIndexedRead _ plainOp_cmpOp, rfl, fun _ => rfl⟩
  | decAbx => exact .inr ⟨_, allPlain_absoluteIndexedModify _ plainRmw_decOp, rfl, fun _ => rfl⟩
  | dcpAbx => exact .inr ⟨_, allPlain_absoluteIndexedModify _ plainRmw_dcpOp, rfl, fun _ => rfl⟩
  | cpxImm => exact .inr ⟨_, allPlain_immediate plainOp_cpxOp, rfl, fun _ => rfl⟩
  | sbcIzx => exact .inr ⟨_, allPlain_indexedIndirectRead plainOp_sbcOp, rfl, fun _ => rfl⟩
  | nopImmE2 => exact .inr ⟨_, allPlain_immediate plainOp_discard, rfl, fun _ => rfl⟩
  | iscIzx => exact .inr ⟨_, allPlain_indexedIndirectModify plainRmw_iscOp, rfl, fun _ => rfl⟩
  | cpxZp => exact .inr ⟨_, allPlain_zeroPageRead plainOp_cpxOp, rfl, fun _ => rfl⟩
  | sbcZp => exact .inr ⟨_, allPlain_zeroPageRead plainOp_sbcOp, rfl, fun _ => rfl⟩
  | incZp => exact .inr ⟨_, allPlain_zeroPageModify plainRmw_incOp, rfl, fun _ => rfl⟩
  | iscZp => exact .inr ⟨_, allPlain_zeroPageModify plainRmw_iscOp, rfl, fun _ => rfl⟩
  | inx => exact .inr ⟨_, allPlain_implied kept_inxOp, rfl, fun _ => rfl⟩
  | sbcImm => exact .inr ⟨_, allPlain_immediate plainOp_sbcOp, rfl, fun _ => rfl⟩
  | nop => exact .inr ⟨_, allPlain_implied Kept.refl, rfl, fun _ => rfl⟩
  | usbc => exact .inr ⟨_, allPlain_immediate plainOp_sbcOp, rfl, fun _ => rfl⟩
  | cpxAbs => exact .inr ⟨_, allPlain_absoluteRead plainOp_cpxOp, rfl, fun _ => rfl⟩
  | sbcAbs => exact .inr ⟨_, allPlain_absoluteRead plainOp_sbcOp, rfl, fun _ => rfl⟩
  | incAbs => exact .inr ⟨_, allPlain_absoluteModify plainRmw_incOp, rfl, fun _ => rfl⟩
  | iscAbs => exact .inr ⟨_, allPlain_absoluteModify plainRmw_iscOp, rfl, fun _ => rfl⟩
  | beq => exact .inr ⟨_, allPlain_branch _, rfl, fun _ => rfl⟩
  | sbcIzy => exact .inr ⟨_, allPlain_indirectIndexedRead plainOp_sbcOp, rfl, fun _ => rfl⟩
  | jamF2 => exact .inl ⟨rfl, fun _ => rfl⟩
  | iscIzy => exact .inr ⟨_, allPlain_indirectIndexedModify plainRmw_iscOp, rfl, fun _ => rfl⟩
  | nopZpxF4 => exact .inr ⟨_, allPlain_zeroPageIndexedRead _ plainOp_discard, rfl, fun _ => rfl⟩
  | sbcZpx => exact .inr ⟨_, allPlain_zeroPageIndexedRead _ plainOp_sbcOp, rfl, fun _ => rfl⟩
  | incZpx => exact .inr ⟨_, allPlain_zeroPageIndexedModify _ plainRmw_incOp, rfl, fun _ => rfl⟩
  | iscZpx => exact .inr ⟨_, allPlain_zeroPageIndexedModify _ plainRmw_iscOp, rfl, fun _ => rfl⟩
  | sed => exact .inr ⟨_, allPlain_implied kept_sedOp, rfl, fun _ => rfl⟩
  | sbcAby => exact .inr ⟨_, allPlain_absoluteIndexedRead _ plainOp_sbcOp, rfl, fun _ => rfl⟩
  | nopImpFA => exact .inr ⟨_, allPlain_implied Kept.refl, rfl, fun _ => rfl⟩
  | iscAby => exact .inr ⟨_, allPlain_absoluteIndexedModify _ plainRmw_iscOp, rfl, fun _ => rfl⟩
  | nopAbxFC => exact .inr ⟨_, allPlain_absoluteIndexedRead _ plainOp_discard, rfl, fun _ => rfl⟩
  | sbcAbx => exact .inr ⟨_, allPlain_absoluteIndexedRead _ plainOp_sbcOp, rfl, fun _ => rfl⟩
  | incAbx => exact .inr ⟨_, allPlain_absoluteIndexedModify _ plainRmw_incOp, rfl, fun _ => rfl⟩
  | iscAbx => exact .inr ⟨_, allPlain_absoluteIndexedModify _ plainRmw_iscOp, rfl, fun _ => rfl⟩

end Sys2Proof.Laws
end

