-- ==== Sys2Proof/Laws/Words.lean ====
section
/-! SUPPORT. The operations on words and bytes that the sequencer computes with, as concatenations and extracts. -/

namespace Sys2Proof.Laws

open Sys2Proof.Machine Sys2Proof.Safety

/-- A word built from two bytes is their concatenation. -/
theorem word_eq_append (hi lo : Byte) : word hi lo = hi ++ lo := by
  unfold word
  apply BitVec.eq_of_getLsbD_eq
  intro i hi
  simp only [BitVec.getLsbD_or, BitVec.getLsbD_shiftLeft, BitVec.getLsbD_setWidth, BitVec.getLsbD_append]
  by_cases h : i < 8
  · simp [h, show i < 16 by omega]
  · have := BitVec.getLsbD_of_ge lo i (by omega)
    simp [h, this, show i < 16 by omega, show i - 8 < 16 by omega]

/-- A page-0 address (R15). -/
theorem zeroPage_eq (b : Byte) : zeroPage b = zp b := word_eq_append 0 b

/-- A page-1 address (R67). -/
theorem stackAddr_eq (s : State) : stackAddr s = stackAt s.s := word_eq_append 1 s.s

/-- The low byte of a word built from two bytes. -/
@[simp] theorem lo8_word (hi lo : Byte) : lo8 (word hi lo) = lo := by
  unfold lo8 word
  apply BitVec.eq_of_getLsbD_eq
  intro i h
  simp [h]

/-- The high byte of a word built from two bytes. -/
@[simp] theorem hi8_word (hi lo : Byte) : hi8 (word hi lo) = hi := by
  unfold hi8 word
  apply BitVec.eq_of_getLsbD_eq
  intro i h
  simp [h, show 8 + i < 16 by omega, show i < 16 by omega]

/-- The bit of a flag as `carryByte` has it. -/
theorem bit_zero (c : Bool) : bit c 0 = carryByte c := by cases c <;> rfl

/-- N and Z as the meanings set them are N and Z as the statements say them. -/
theorem setNZ_eq (p : Flags) (v : Byte) : p.setNZ v = nz p v := by
  have h : bit7 v = v.msb := by simp [bit7, BitVec.msb_eq_getLsbD_last]
  simp only [Flags.setNZ, nz, h]
  congr 1

end Sys2Proof.Laws
end

