-- ==== Sys2Proof/Tests/Slice0.lean ====
section
/-! SUPPORT. The model's own tests: decoding words written out from the opcode map (R97), ill-formed terms refused, one-step tests whose expected results are those of spec/95_test_vectors.md, and for each statement with hypotheses a concrete state that meets them. -/

namespace Sys2Proof.Tests

open Sys2Proof.Machine Sys2Proof.Safety

/-! ### Decoding: every opcode, from the opcode map (R97) -/

theorem test_decode_row_0 :
    ([(0b00000000, .brk), (0b00000001, .oraIzx), (0b00000010, .jam02), (0b00000011, .sloIzx),
      (0b00000100, .nopZp04), (0b00000101, .oraZp), (0b00000110, .aslZp), (0b00000111, .sloZp),
      (0b00001000, .php), (0b00001001, .oraImm), (0b00001010, .aslAcc), (0b00001011, .ancImm0B),
      (0b00001100, .nopAbs0C), (0b00001101, .oraAbs), (0b00001110, .aslAbs), (0b00001111, .sloAbs)] : List (Nat × Instr)).all
      (fun e => decodeTableWord 8 e.1 == some e.2) = true := by decide

theorem test_decode_row_1 :
    ([(0b00010000, .bpl), (0b00010001, .oraIzy), (0b00010010, .jam12), (0b00010011, .sloIzy),
      (0b00010100, .nopZpx14), (0b00010101, .oraZpx), (0b00010110, .aslZpx), (0b00010111, .sloZpx),
      (0b00011000, .clc), (0b00011001, .oraAby), (0b00011010, .nopImp1A), (0b00011011, .sloAby),
      (0b00011100, .nopAbx1C), (0b00011101, .oraAbx), (0b00011110, .aslAbx), (0b00011111, .sloAbx)] : List (Nat × Instr)).all
      (fun e => decodeTableWord 8 e.1 == some e.2) = true := by decide

theorem test_decode_row_2 :
    ([(0b00100000, .jsr), (0b00100001, .andIzx), (0b00100010, .jam22), (0b00100011, .rlaIzx),
      (0b00100100, .bitZp), (0b00100101, .andZp), (0b00100110, .rolZp), (0b00100111, .rlaZp),
      (0b00101000, .plp), (0b00101001, .andImm), (0b00101010, .rolAcc), (0b00101011, .ancImm2B),
      (0b00101100, .bitAbs), (0b00101101, .andAbs), (0b00101110, .rolAbs), (0b00101111, .rlaAbs)] : List (Nat × Instr)).all
      (fun e => decodeTableWord 8 e.1 == some e.2) = true := by decide

theorem test_decode_row_3 :
    ([(0b00110000, .bmi), (0b00110001, .andIzy), (0b00110010, .jam32), (0b00110011, .rlaIzy),
      (0b00110100, .nopZpx34), (0b00110101, .andZpx), (0b00110110, .rolZpx), (0b00110111, .rlaZpx),
      (0b00111000, .sec), (0b00111001, .andAby), (0b00111010, .nopImp3A), (0b00111011, .rlaAby),
      (0b00111100, .nopAbx3C), (0b00111101, .andAbx), (0b00111110, .rolAbx), (0b00111111, .rlaAbx)] : List (Nat × Instr)).all
      (fun e => decodeTableWord 8 e.1 == some e.2) = true := by decide

theorem test_decode_row_4 :
    ([(0b01000000, .rti), (0b01000001, .eorIzx), (0b01000010, .jam42), (0b01000011, .sreIzx),
      (0b01000100, .nopZp44), (0b01000101, .eorZp), (0b01000110, .lsrZp), (0b01000111, .sreZp),
      (0b01001000, .pha), (0b01001001, .eorImm), (0b01001010, .lsrAcc), (0b01001011, .alr),
      (0b01001100, .jmpAbs), (0b01001101, .eorAbs), (0b01001110, .lsrAbs), (0b01001111, .sreAbs)] : List (Nat × Instr)).all
      (fun e => decodeTableWord 8 e.1 == some e.2) = true := by decide

theorem test_decode_row_5 :
    ([(0b01010000, .bvc), (0b01010001, .eorIzy), (0b01010010, .jam52), (0b01010011, .sreIzy),
      (0b01010100, .nopZpx54), (0b01010101, .eorZpx), (0b01010110, .lsrZpx), (0b01010111, .sreZpx),
      (0b01011000, .cli), (0b01011001, .eorAby), (0b01011010, .nopImp5A), (0b01011011, .sreAby),
      (0b01011100, .nopAbx5C), (0b01011101, .eorAbx), (0b01011110, .lsrAbx), (0b01011111, .sreAbx)] : List (Nat × Instr)).all
      (fun e => decodeTableWord 8 e.1 == some e.2) = true := by decide

theorem test_decode_row_6 :
    ([(0b01100000, .rts), (0b01100001, .adcIzx), (0b01100010, .jam62), (0b01100011, .rraIzx),
      (0b01100100, .nopZp64), (0b01100101, .adcZp), (0b01100110, .rorZp), (0b01100111, .rraZp),
      (0b01101000, .pla), (0b01101001, .adcImm), (0b01101010, .rorAcc), (0b01101011, .arr),
      (0b01101100, .jmpInd), (0b01101101, .adcAbs), (0b01101110, .rorAbs), (0b01101111, .rraAbs)] : List (Nat × Instr)).all
      (fun e => decodeTableWord 8 e.1 == some e.2) = true := by decide

theorem test_decode_row_7 :
    ([(0b01110000, .bvs), (0b01110001, .adcIzy), (0b01110010, .jam72), (0b01110011, .rraIzy),
      (0b01110100, .nopZpx74), (0b01110101, .adcZpx), (0b01110110, .rorZpx), (0b01110111, .rraZpx),
      (0b01111000, .sei), (0b01111001, .adcAby), (0b01111010, .nopImp7A), (0b01111011, .rraAby),
      (0b01111100, .nopAbx7C), (0b01111101, .adcAbx), (0b01111110, .rorAbx), (0b01111111, .rraAbx)] : List (Nat × Instr)).all
      (fun e => decodeTableWord 8 e.1 == some e.2) = true := by decide

theorem test_decode_row_8 :
    ([(0b10000000, .nopImm80), (0b10000001, .staIzx), (0b10000010, .nopImm82), (0b10000011, .saxIzx),
      (0b10000100, .styZp), (0b10000101, .staZp), (0b10000110, .stxZp), (0b10000111, .saxZp),
      (0b10001000, .dey), (0b10001001, .nopImm89), (0b10001010, .txa), (0b10001011, .ane),
      (0b10001100, .styAbs), (0b10001101, .staAbs), (0b10001110, .stxAbs), (0b10001111, .saxAbs)] : List (Nat × Instr)).all
      (fun e => decodeTableWord 8 e.1 == some e.2) = true := by decide

theorem test_decode_row_9 :
    ([(0b10010000, .bcc), (0b10010001, .staIzy), (0b10010010, .jam92), (0b10010011, .shaIzy),
      (0b10010100, .styZpx), (0b10010101, .staZpx), (0b10010110, .stxZpy), (0b10010111, .saxZpy),
      (0b10011000, .tya), (0b10011001, .staAby), (0b10011010, .txs), (0b10011011, .tas),
      (0b10011100, .shy), (0b10011101, .staAbx), (0b10011110, .shx), (0b10011111, .shaAby)] : List (Nat × Instr)).all
      (fun e => decodeTableWord 8 e.1 == some e.2) = true := by decide

theorem test_decode_row_A :
    ([(0b10100000, .ldyImm), (0b10100001, .ldaIzx), (0b10100010, .ldxImm), (0b10100011, .laxIzx),
      (0b10100100, .ldyZp), (0b10100101, .ldaZp), (0b10100110, .ldxZp), (0b10100111, .laxZp),
      (0b10101000, .tay), (0b10101001, .ldaImm), (0b10101010, .tax), (0b10101011, .lxa),
      (0b10101100, .ldyAbs), (0b10101101, .ldaAbs), (0b10101110, .ldxAbs), (0b10101111, .laxAbs)] : List (Nat × Instr)).all
      (fun e => decodeTableWord 8 e.1 == some e.2) = true := by decide

theorem test_decode_row_B :
    ([(0b10110000, .bcs), (0b10110001, .ldaIzy), (0b10110010, .jamB2), (0b10110011, .laxIzy),
      (0b10110100, .ldyZpx), (0b10110101, .ldaZpx), (0b10110110, .ldxZpy), (0b10110111, .laxZpy),
      (0b10111000, .clv), (0b10111001, .ldaAby), (0b10111010, .tsx), (0b10111011, .las),
      (0b10111100, .ldyAbx), (0b10111101, .ldaAbx), (0b10111110, .ldxAby), (0b10111111, .laxAby)] : List (Nat × Instr)).all
      (fun e => decodeTableWord 8 e.1 == some e.2) = true := by decide

theorem test_decode_row_C :
    ([(0b11000000, .cpyImm), (0b11000001, .cmpIzx), (0b11000010, .nopImmC2), (0b11000011, .dcpIzx),
      (0b11000100, .cpyZp), (0b11000101, .cmpZp), (0b11000110, .decZp), (0b11000111, .dcpZp),
      (0b11001000, .iny), (0b11001001, .cmpImm), (0b11001010, .dex), (0b11001011, .sbx),
      (0b11001100, .cpyAbs), (0b11001101, .cmpAbs), (0b11001110, .decAbs), (0b11001111, .dcpAbs)] : List (Nat × Instr)).all
      (fun e => decodeTableWord 8 e.1 == some e.2) = true := by decide

theorem test_decode_row_D :
    ([(0b11010000, .bne), (0b11010001, .cmpIzy), (0b11010010, .jamD2), (0b11010011, .dcpIzy),
      (0b11010100, .nopZpxD4), (0b11010101, .cmpZpx), (0b11010110, .decZpx), (0b11010111, .dcpZpx),
      (0b11011000, .cld), (0b11011001, .cmpAby), (0b11011010, .nopImpDA), (0b11011011, .dcpAby),
      (0b11011100, .nopAbxDC), (0b11011101, .cmpAbx), (0b11011110, .decAbx), (0b11011111, .dcpAbx)] : List (Nat × Instr)).all
      (fun e => decodeTableWord 8 e.1 == some e.2) = true := by decide

theorem test_decode_row_E :
    ([(0b11100000, .cpxImm), (0b11100001, .sbcIzx), (0b11100010, .nopImmE2), (0b11100011, .iscIzx),
      (0b11100100, .cpxZp), (0b11100101, .sbcZp), (0b11100110, .incZp), (0b11100111, .iscZp),
      (0b11101000, .inx), (0b11101001, .sbcImm), (0b11101010, .nop), (0b11101011, .usbc),
      (0b11101100, .cpxAbs), (0b11101101, .sbcAbs), (0b11101110, .incAbs), (0b11101111, .iscAbs)] : List (Nat × Instr)).all
      (fun e => decodeTableWord 8 e.1 == some e.2) = true := by decide

theorem test_decode_row_F :
    ([(0b11110000, .beq), (0b11110001, .sbcIzy), (0b11110010, .jamF2), (0b11110011, .iscIzy),
      (0b11110100, .nopZpxF4), (0b11110101, .sbcZpx), (0b11110110, .incZpx), (0b11110111, .iscZpx),
      (0b11111000, .sed), (0b11111001, .sbcAby), (0b11111010, .nopImpFA), (0b11111011, .iscAby),
      (0b11111100, .nopAbxFC), (0b11111101, .sbcAbx), (0b11111110, .incAbx), (0b11111111, .iscAbx)] : List (Nat × Instr)).all
      (fun e => decodeTableWord 8 e.1 == some e.2) = true := by decide

theorem test_decode_keeps_operands :
    decode [0x9D, 0xF0, 0x10, 0xEA] = .ok (⟨.staAbx, [0xF0, 0x10]⟩, [0xEA]) := by decide

theorem test_decode_refuses_missing_operand : decode [0x9D, 0xF0] = .error (.missingOperand .staAbx) := by decide

theorem test_decode_refuses_no_bytes : decode [] = .error .noOpcode := by decide

/-! ### Well-formedness: the operand bytes are as many as the format has -/

theorem test_wellFormed_refuses_missing_byte : Stored.wellFormed ⟨.ldaImm, []⟩ = false := by decide

theorem test_wellFormed_refuses_second_byte : Stored.wellFormed ⟨.ldaZp, [0x10, 0x00]⟩ = false := by decide

theorem test_wellFormed_refuses_short_address : Stored.wellFormed ⟨.jmpAbs, [0x00]⟩ = false := by decide

theorem test_wellFormed_refuses_operand_of_implied : Stored.wellFormed ⟨.nop, [0x00]⟩ = false := by decide

theorem test_wellFormed_accepts : Stored.wellFormed ⟨.jmpAbs, [0x00, 0xC0]⟩ = true := by decide

/-! ### One-step tests -/

/-- Store bytes at rising addresses. -/
def stored (a : Nat) : List Byte → List Host.Cell → List Host.Cell
  | [], m => m
  | b :: rest, m => stored (a + 1) rest (Memory.write m (a % 65536) b)

/-- The start state of the vectors: the core active at a boundary, PC = 0x0200, S = 0xFD, P = 0x20, a budget of 50. -/
def core0 : State :=
  { State.reset with
    pc := 0x0200
    s := 0xFD
    p := Flags.load 0x20
    resetReq := .none
    sched := ⟨50, 0, 0, .active⟩
    active := some 0 }

/-- The bytes of an instruction at PC, and data elsewhere. -/
def placed (bytes : List Byte) (data : List (Nat × List Byte)) (s : State) : State :=
  { s with mem := data.foldl (fun m e => stored e.1 e.2 m) (stored s.pc.toNat bytes s.mem) }

/-- A, X, Y, S, P_live and PC after one step. -/
def registersAfter (s : State) : Option (List Byte × Word) :=
  match step s with
  | .next t => some ([t.a, t.x, t.y, t.s, t.p.live], t.pc)
  | _ => none

/-- The transactions of one step, oldest first. -/
def busAfter (s : State) : Option (List (Dir × Word × Byte)) :=
  match step s with
  | .next t => some ((t.history.map fun e => (e.dir, e.addr, e.data)).reverse)
  | _ => none

/-- The state with the flags of a packed byte. -/
def withP (b : Byte) (s : State) : State := { s with p := Flags.load b }

/-- Vector V-LD1. -/
theorem test_lda_zero : registersAfter (placed [0xA9, 0x00] [] core0) =
    some ([0x00, 0x00, 0x00, 0xFD, 0x22], 0x0202) := by decide

/-- Vector V-LD3. -/
theorem test_ldx_zpy_wraps : registersAfter (placed [0xB6, 0xFF] [(0x0000, [0x80])] { core0 with y := 0x01 }) =
    some ([0x00, 0x80, 0x01, 0xFD, 0xA0], 0x0202) := by decide

/-- Vector V-LD4. -/
theorem test_lda_abx_crosses : busAfter (placed [0xBD, 0xFF, 0x12] [(0x1300, [0x42])] { core0 with x := 0x01 }) =
    some [(.read, 0x0200, 0xBD), (.read, 0x0201, 0xFF), (.read, 0x0202, 0x12), (.read, 0x1200, 0x00), (.read, 0x1300, 0x42)] := by decide

/-- Vector V-LD5. -/
theorem test_lda_abx_same_page : busAfter (placed [0xBD, 0x00, 0x12] [(0x1201, [0x42])] { core0 with x := 0x01 }) =
    some [(.read, 0x0200, 0xBD), (.read, 0x0201, 0x00), (.read, 0x0202, 0x12), (.read, 0x1201, 0x42)] := by decide

/-- R162 with the zero-page wrap of R125. -/
theorem test_ldy_zpx : registersAfter (placed [0xB4, 0xFF] [(0x0001, [0x7F])] { core0 with x := 0x02 }) =
    some ([0x00, 0x02, 0x7F, 0xFD, 0x20], 0x0202) := by decide

/-- Vector V-ST2. -/
theorem test_sta_abx_crosses : busAfter (placed [0x9D, 0xF0, 0x10] [] { core0 with a := 0x07, x := 0x20 }) =
    some [(.read, 0x0200, 0x9D), (.read, 0x0201, 0xF0), (.read, 0x0202, 0x10), (.read, 0x1010, 0x00), (.write, 0x1110, 0x07)] := by decide

/-- Vector V-ST3. -/
theorem test_sta_abx_same_page : busAfter (placed [0x9D, 0x00, 0x10] [] { core0 with a := 0x07, x := 0x01 }) =
    some [(.read, 0x0200, 0x9D), (.read, 0x0201, 0x00), (.read, 0x0202, 0x10), (.read, 0x1001, 0x00), (.write, 0x1001, 0x07)] := by decide

/-- Vector V-ST4. -/
theorem test_stx_zpy : busAfter (placed [0x96, 0xFF] [] { core0 with x := 0x7F, y := 0x02 }) =
    some [(.read, 0x0200, 0x96), (.read, 0x0201, 0xFF), (.read, 0x00FF, 0x00), (.write, 0x0001, 0x7F)] := by decide

/-- R165. -/
theorem test_sty_zp : busAfter (placed [0x84, 0x10] [] { core0 with y := 0x33 }) =
    some [(.read, 0x0200, 0x84), (.read, 0x0201, 0x10), (.write, 0x0010, 0x33)] := by decide

/-- Vector V-TR1. -/
theorem test_tax : registersAfter (placed [0xAA] [] { core0 with x := 0x05 }) =
    some ([0x00, 0x00, 0x00, 0xFD, 0x22], 0x0201) := by decide

/-- Vector V-TR2. -/
theorem test_tsx : registersAfter (placed [0xBA] [] core0) =
    some ([0x00, 0xFD, 0x00, 0xFD, 0xA0], 0x0201) := by decide

/-- Vector V-TR3. -/
theorem test_txs_keeps_flags : registersAfter (placed [0x9A] [] (withP 0x26 core0)) =
    some ([0x00, 0x00, 0x00, 0x00, 0x26], 0x0201) := by decide

/-- R167. -/
theorem test_tay : registersAfter (placed [0xA8] [] { core0 with a := 0x80 }) =
    some ([0x80, 0x00, 0x80, 0xFD, 0xA0], 0x0201) := by decide

/-- R168. -/
theorem test_txa : registersAfter (placed [0x8A] [] { core0 with x := 0x01, a := 0x09 }) =
    some ([0x01, 0x01, 0x00, 0xFD, 0x20], 0x0201) := by decide

/-- R169. -/
theorem test_tya : registersAfter (placed [0x98] [] { core0 with y := 0x00, a := 0x09 }) =
    some ([0x00, 0x00, 0x00, 0xFD, 0x22], 0x0201) := by decide

/-- ADC table of 2.2: 7F + 01. -/
theorem test_adc_overflows : registersAfter (placed [0x69, 0x01] [] { core0 with a := 0x7F }) =
    some ([0x80, 0x00, 0x00, 0xFD, 0xE0], 0x0202) := by decide

/-- ADC table of 2.2: FF + 00 + 1. -/
theorem test_adc_carries : registersAfter (placed [0x69, 0x00] [] (withP 0x21 { core0 with a := 0xFF })) =
    some ([0x00, 0x00, 0x00, 0xFD, 0x23], 0x0202) := by decide

/-- SBC table of 2.2: 80 - 01. -/
theorem test_sbc_overflows : registersAfter (placed [0xE9, 0x01] [] (withP 0x21 { core0 with a := 0x80 })) =
    some ([0x7F, 0x00, 0x00, 0xFD, 0x61], 0x0202) := by decide

/-- SBC table of 2.2: 00 - 00 - 1. -/
theorem test_sbc_borrows : registersAfter (placed [0xE9, 0x00] [] (withP 0x20 { core0 with a := 0x00 })) =
    some ([0xFF, 0x00, 0x00, 0xFD, 0xA0], 0x0202) := by decide

/-- Vector V-U21. -/
theorem test_usbc : registersAfter (placed [0xEB, 0x03] [] (withP 0x21 { core0 with a := 0x05 })) =
    some ([0x02, 0x00, 0x00, 0xFD, 0x21], 0x0202) := by decide

/-- Vector V-LG1. -/
theorem test_and : registersAfter (placed [0x29, 0x0F] [] { core0 with a := 0xF0 }) =
    some ([0x00, 0x00, 0x00, 0xFD, 0x22], 0x0202) := by decide

/-- Vector V-LG2. -/
theorem test_ora : registersAfter (placed [0x09, 0x80] [] { core0 with a := 0x01 }) =
    some ([0x81, 0x00, 0x00, 0xFD, 0xA0], 0x0202) := by decide

/-- Vector V-LG3. -/
theorem test_eor : registersAfter (placed [0x49, 0xFF] [] { core0 with a := 0xFF }) =
    some ([0x00, 0x00, 0x00, 0xFD, 0x22], 0x0202) := by decide

/-- CMP table of 2.3: 01 with FF, V kept. -/
theorem test_cmp_below : registersAfter (placed [0xC9, 0xFF] [] (withP 0x61 { core0 with a := 0x01 })) =
    some ([0x01, 0x00, 0x00, 0xFD, 0x60], 0x0202) := by decide

/-- CMP table of 2.3: 80 with 00. -/
theorem test_cmp_sign : registersAfter (placed [0xC9, 0x00] [] { core0 with a := 0x80 }) =
    some ([0x80, 0x00, 0x00, 0xFD, 0xA1], 0x0202) := by decide

/-- CMP table of 2.3: 10 with 10. -/
theorem test_cpx : registersAfter (placed [0xE0, 0x10] [] { core0 with x := 0x10 }) =
    some ([0x00, 0x10, 0x00, 0xFD, 0x23], 0x0202) := by decide

/-- CMP table of 2.3: 10 with 11. -/
theorem test_cpy : registersAfter (placed [0xC0, 0x11] [] { core0 with y := 0x10 }) =
    some ([0x00, 0x00, 0x10, 0xFD, 0xA0], 0x0202) := by decide

/-- BIT table of 2.3: A = 01, M = C0. -/
theorem test_bit : registersAfter (placed [0x24, 0x10] [(0x0010, [0xC0])] { core0 with a := 0x01 }) =
    some ([0x01, 0x00, 0x00, 0xFD, 0xE2], 0x0202) := by decide

/-- BIT table of 2.3: A = FF, M = 40. -/
theorem test_bit_v : registersAfter (placed [0x24, 0x10] [(0x0010, [0x40])] { core0 with a := 0xFF }) =
    some ([0xFF, 0x00, 0x00, 0xFD, 0x60], 0x0202) := by decide

/-- Vector V-RMW1. -/
theorem test_inc_writes_twice : busAfter (placed [0xE6, 0x10] [(0x0010, [0xFF])] core0) =
    some [(.read, 0x0200, 0xE6), (.read, 0x0201, 0x10), (.read, 0x0010, 0xFF), (.write, 0x0010, 0xFF), (.write, 0x0010, 0x00)] := by decide

/-- Vector V-RMW2. -/
theorem test_dec : registersAfter (placed [0xC6, 0x10] [] core0) =
    some ([0x00, 0x00, 0x00, 0xFD, 0xA0], 0x0202) := by decide

/-- 2.4: INX from FF. -/
theorem test_inx : registersAfter (placed [0xE8] [] { core0 with x := 0xFF }) =
    some ([0x00, 0x00, 0x00, 0xFD, 0x22], 0x0201) := by decide

/-- 2.4: INY from 7F. -/
theorem test_iny : registersAfter (placed [0xC8] [] { core0 with y := 0x7F }) =
    some ([0x00, 0x00, 0x80, 0xFD, 0xA0], 0x0201) := by decide

/-- 2.4: DEX from 01. -/
theorem test_dex : registersAfter (placed [0xCA] [] { core0 with x := 0x01 }) =
    some ([0x00, 0x00, 0x00, 0xFD, 0x22], 0x0201) := by decide

/-- 2.4: DEY from 00. -/
theorem test_dey : registersAfter (placed [0x88] [] { core0 with y := 0x00 }) =
    some ([0x00, 0x00, 0xFF, 0xFD, 0xA0], 0x0201) := by decide

/-- ASL table of 2.4: 80 with C = 1. -/
theorem test_asl_acc : registersAfter (placed [0x0A] [] (withP 0x21 { core0 with a := 0x80 })) =
    some ([0x00, 0x00, 0x00, 0xFD, 0x23], 0x0201) := by decide

/-- Vector V-RMW4. -/
theorem test_asl_abx_crosses : busAfter (placed [0x1E, 0xF0, 0x12] [(0x1310, [0x41])] { core0 with x := 0x20 }) =
    some [(.read, 0x0200, 0x1E), (.read, 0x0201, 0xF0), (.read, 0x0202, 0x12), (.read, 0x1210, 0x00), (.read, 0x1310, 0x41), (.write, 0x1310, 0x41), (.write, 0x1310, 0x82)] := by decide

/-- LSR table of 2.4: 01. -/
theorem test_lsr_acc : registersAfter (placed [0x4A] [] (withP 0x21 { core0 with a := 0x01 })) =
    some ([0x00, 0x00, 0x00, 0xFD, 0x23], 0x0201) := by decide

/-- ROL table of 2.4: 80 with C = 1. -/
theorem test_rol_acc : registersAfter (placed [0x2A] [] (withP 0x21 { core0 with a := 0x80 })) =
    some ([0x01, 0x00, 0x00, 0xFD, 0x21], 0x0201) := by decide

/-- ROR table of 2.4: 80 with C = 1. -/
theorem test_ror_acc : registersAfter (placed [0x6A] [] (withP 0x21 { core0 with a := 0x80 })) =
    some ([0xC0, 0x00, 0x00, 0xFD, 0xA0], 0x0201) := by decide

/-- Vector V-RMW3. -/
theorem test_ror_zp : busAfter (placed [0x66, 0x10] [(0x0010, [0x01])] (withP 0x21 core0)) =
    some [(.read, 0x0200, 0x66), (.read, 0x0201, 0x10), (.read, 0x0010, 0x01), (.write, 0x0010, 0x01), (.write, 0x0010, 0x80)] := by decide

/-- Vector V-AM9. -/
theorem test_lda_izx_wraps : busAfter (placed [0xA1, 0xFE] [(0x00FF, [0x34]), (0x0000, [0x12]), (0x1234, [0x56])] { core0 with x := 0x01 }) =
    some [(.read, 0x0200, 0xA1), (.read, 0x0201, 0xFE), (.read, 0x00FE, 0x00), (.read, 0x00FF, 0x34), (.read, 0x0000, 0x12), (.read, 0x1234, 0x56)] := by decide

/-- Vector V-BR1. -/
theorem test_bne_not_taken : busAfter (placed [0xD0, 0x05] [] (withP 0x22 core0)) =
    some [(.read, 0x0200, 0xD0), (.read, 0x0201, 0x05)] := by decide

/-- Vector V-BR2. -/
theorem test_bne_taken : registersAfter (placed [0xD0, 0x05] [] core0) =
    some ([0x00, 0x00, 0x00, 0xFD, 0x20], 0x0207) := by decide

/-- Vector V-BR3. -/
theorem test_bvc_crosses : busAfter (placed [0x50, 0x10] [] { core0 with pc := 0x02F0 }) =
    some [(.read, 0x02F0, 0x50), (.read, 0x02F1, 0x10), (.read, 0x02F2, 0x00), (.read, 0x0202, 0x00)] := by decide

/-- Vector V-BR4. -/
theorem test_bvs_backward : registersAfter (placed [0x70, 0xFC] [] (withP 0x60 { core0 with pc := 0x0300 })) =
    some ([0x00, 0x00, 0x00, 0xFD, 0x60], 0x02FE) := by decide

/-- Vector V-BR5. -/
theorem test_beq_wraps : registersAfter (placed [0xF0, 0x7F] [] (withP 0x22 { core0 with pc := 0xFFF0 })) =
    some ([0x00, 0x00, 0x00, 0xFD, 0x22], 0x0071) := by decide

/-- Vector V-BR6. -/
theorem test_bpl_to_itself : registersAfter (placed [0x10, 0xFE] [] core0) =
    some ([0x00, 0x00, 0x00, 0xFD, 0x20], 0x0200) := by decide

/-- R232. -/
theorem test_bmi_not_taken : registersAfter (placed [0x30, 0x05] [] core0) =
    some ([0x00, 0x00, 0x00, 0xFD, 0x20], 0x0202) := by decide

/-- R235. -/
theorem test_bcc_taken : registersAfter (placed [0x90, 0x05] [] core0) =
    some ([0x00, 0x00, 0x00, 0xFD, 0x20], 0x0207) := by decide

/-- R236. -/
theorem test_bcs_taken : registersAfter (placed [0xB0, 0x05] [] (withP 0x21 core0)) =
    some ([0x00, 0x00, 0x00, 0xFD, 0x21], 0x0207) := by decide

/-- Vector V-JMP1. -/
theorem test_jmp : registersAfter (placed [0x4C, 0x00, 0xC0] [] core0) =
    some ([0x00, 0x00, 0x00, 0xFD, 0x20], 0xC000) := by decide

/-- Vector V-JMP2. -/
theorem test_jmp_indirect_page_wrap : busAfter (placed [0x6C, 0xFF, 0x10] [(0x10FF, [0x34, 0x56]), (0x1000, [0x12])] core0) =
    some [(.read, 0x0200, 0x6C), (.read, 0x0201, 0xFF), (.read, 0x0202, 0x10), (.read, 0x10FF, 0x34), (.read, 0x1000, 0x12)] := by decide

/-- Vector V-JMP3. -/
theorem test_jmp_indirect : registersAfter (placed [0x6C, 0x00, 0x11] [(0x1100, [0x78, 0x56])] core0) =
    some ([0x00, 0x00, 0x00, 0xFD, 0x20], 0x5678) := by decide

/-- Vector V-STK1. -/
theorem test_jsr : busAfter (placed [0x20, 0x00, 0x03] [] core0) =
    some [(.read, 0x0200, 0x20), (.read, 0x0201, 0x00), (.read, 0x01FD, 0x00), (.write, 0x01FD, 0x02), (.write, 0x01FC, 0x02), (.read, 0x0202, 0x03)] := by decide

/-- Vector V-STK2. -/
theorem test_rts : registersAfter (placed [0x60] [(0x01FC, [0x02, 0x02])] { core0 with pc := 0x0300, s := 0xFB }) =
    some ([0x00, 0x00, 0x00, 0xFD, 0x20], 0x0203) := by decide

/-- Vector V-STK3. -/
theorem test_brk_bus : busAfter (placed [0x00, 0x00] [(0xFFFE, [0x00, 0x80])] core0) =
    some [(.read, 0x0200, 0x00), (.read, 0x0201, 0x00), (.write, 0x01FD, 0x02), (.write, 0x01FC, 0x02), (.write, 0x01FB, 0x30), (.read, 0xFFFE, 0x00), (.read, 0xFFFF, 0x80)] := by decide

/-- Vector V-STK3. -/
theorem test_brk : registersAfter (placed [0x00, 0x00] [(0xFFFE, [0x00, 0x80])] core0) =
    some ([0x00, 0x00, 0x00, 0xFA, 0x24], 0x8000) := by decide

/-- Vector V-STK4. -/
theorem test_rti : registersAfter (placed [0x40] [(0x01FB, [0x20, 0x00, 0x03])] (withP 0xE7 { core0 with s := 0xFA })) =
    some ([0x00, 0x00, 0x00, 0xFD, 0x20], 0x0300) := by decide

/-- Vector V-STK5. -/
theorem test_php : busAfter (placed [0x08] [] (withP 0xE3 core0)) =
    some [(.read, 0x0200, 0x08), (.read, 0x0201, 0x00), (.write, 0x01FD, 0xF3)] := by decide

/-- Vector V-STK5. -/
theorem test_plp : registersAfter (placed [0x28] [(0x01FD, [0xF3])] { core0 with s := 0xFC }) =
    some ([0x00, 0x00, 0x00, 0xFD, 0xE3], 0x0201) := by decide

/-- Vector V-STK6. -/
theorem test_pla : registersAfter (placed [0x68] [(0x0100, [0x9C])] { core0 with s := 0xFF }) =
    some ([0x9C, 0x00, 0x00, 0x00, 0xA0], 0x0201) := by decide

/-- Vector V-STK7. -/
theorem test_pha : busAfter (placed [0x48] [] { core0 with s := 0x00, a := 0x11 }) =
    some [(.read, 0x0200, 0x48), (.read, 0x0201, 0x00), (.write, 0x0100, 0x11)] := by decide

/-- R250. -/
theorem test_clc : registersAfter (placed [0x18] [] (withP 0xEF core0)) =
    some ([0x00, 0x00, 0x00, 0xFD, 0xEE], 0x0201) := by decide

/-- R251. -/
theorem test_sec : registersAfter (placed [0x38] [] core0) =
    some ([0x00, 0x00, 0x00, 0xFD, 0x21], 0x0201) := by decide

/-- R252. -/
theorem test_cli : registersAfter (placed [0x58] [] (withP 0xEF core0)) =
    some ([0x00, 0x00, 0x00, 0xFD, 0xEB], 0x0201) := by decide

/-- R253. -/
theorem test_sei : registersAfter (placed [0x78] [] core0) =
    some ([0x00, 0x00, 0x00, 0xFD, 0x24], 0x0201) := by decide

/-- R254. -/
theorem test_clv : registersAfter (placed [0xB8] [] (withP 0xEF core0)) =
    some ([0x00, 0x00, 0x00, 0xFD, 0xAF], 0x0201) := by decide

/-- R255. -/
theorem test_cld : registersAfter (placed [0xD8] [] (withP 0xEF core0)) =
    some ([0x00, 0x00, 0x00, 0xFD, 0xE7], 0x0201) := by decide

/-- R256. -/
theorem test_sed : registersAfter (placed [0xF8] [] core0) =
    some ([0x00, 0x00, 0x00, 0xFD, 0x28], 0x0201) := by decide

/-- R257. -/
theorem test_nop : registersAfter (placed [0xEA] [] (withP 0xEF core0)) =
    some ([0x00, 0x00, 0x00, 0xFD, 0xEF], 0x0201) := by decide

/-- Vector V-U1. -/
theorem test_slo : registersAfter (placed [0x07, 0x10] [(0x0010, [0x80])] { core0 with a := 0x01 }) =
    some ([0x01, 0x00, 0x00, 0xFD, 0x21], 0x0202) := by decide

/-- Vector V-U2. -/
theorem test_rla : registersAfter (placed [0x27, 0x10] [(0x0010, [0x40])] (withP 0x21 { core0 with a := 0xFF })) =
    some ([0x81, 0x00, 0x00, 0xFD, 0xA0], 0x0202) := by decide

/-- Vector V-U3. -/
theorem test_sre : registersAfter (placed [0x47, 0x10] [(0x0010, [0x03])] { core0 with a := 0x01 }) =
    some ([0x00, 0x00, 0x00, 0xFD, 0x23], 0x0202) := by decide

/-- Vector V-U4. -/
theorem test_rra : registersAfter (placed [0x73, 0x10] [(0x0010, [0xF0, 0x12]), (0x1310, [0x03])] { core0 with a := 0x10, y := 0x20 }) =
    some ([0x12, 0x00, 0x20, 0xFD, 0x20], 0x0202) := by decide

/-- Vector V-U4. -/
theorem test_rra_bus : busAfter (placed [0x73, 0x10] [(0x0010, [0xF0, 0x12]), (0x1310, [0x03])] { core0 with a := 0x10, y := 0x20 }) =
    some [(.read, 0x0200, 0x73), (.read, 0x0201, 0x10), (.read, 0x0010, 0xF0), (.read, 0x0011, 0x12), (.read, 0x1210, 0x00), (.read, 0x1310, 0x03), (.write, 0x1310, 0x03), (.write, 0x1310, 0x01)] := by decide

/-- Vector V-U5. -/
theorem test_sax : busAfter (placed [0x87, 0x10] [] { core0 with a := 0xF0, x := 0x3C }) =
    some [(.read, 0x0200, 0x87), (.read, 0x0201, 0x10), (.write, 0x0010, 0x30)] := by decide

/-- Vector V-U6. -/
theorem test_lax : registersAfter (placed [0xA7, 0x10] [(0x0010, [0x80])] core0) =
    some ([0x80, 0x80, 0x00, 0xFD, 0xA0], 0x0202) := by decide

/-- Vector V-U7. -/
theorem test_dcp : registersAfter (placed [0xC7, 0x10] [(0x0010, [0x06])] { core0 with a := 0x05 }) =
    some ([0x05, 0x00, 0x00, 0xFD, 0x23], 0x0202) := by decide

/-- Vector V-U8. -/
theorem test_isc : registersAfter (placed [0xE7, 0x10] [(0x0010, [0x0F])] (withP 0x21 { core0 with a := 0x10 })) =
    some ([0x00, 0x00, 0x00, 0xFD, 0x23], 0x0202) := by decide

/-- Vector V-U9. -/
theorem test_anc : registersAfter (placed [0x0B, 0x80] [] { core0 with a := 0xFF }) =
    some ([0x80, 0x00, 0x00, 0xFD, 0xA1], 0x0202) := by decide

/-- Vector V-U10. -/
theorem test_anc_2B : registersAfter (placed [0x2B, 0x7F] [] (withP 0x21 { core0 with a := 0xFF })) =
    some ([0x7F, 0x00, 0x00, 0xFD, 0x20], 0x0202) := by decide

/-- Vector V-U11. -/
theorem test_alr : registersAfter (placed [0x4B, 0x03] [] { core0 with a := 0xFF }) =
    some ([0x01, 0x00, 0x00, 0xFD, 0x21], 0x0202) := by decide

/-- Vector V-U13. -/
theorem test_arr : registersAfter (placed [0x6B, 0x80] [] { core0 with a := 0xFF }) =
    some ([0x40, 0x00, 0x00, 0xFD, 0x61], 0x0202) := by decide

/-- Vector V-U14. -/
theorem test_arr_v : registersAfter (placed [0x6B, 0xFF] [] { core0 with a := 0x40 }) =
    some ([0x20, 0x00, 0x00, 0xFD, 0x60], 0x0202) := by decide

/-- Vector V-U19. -/
theorem test_sbx : registersAfter (placed [0xCB, 0x01] [] { core0 with a := 0xFF, x := 0x10 }) =
    some ([0xFF, 0x0F, 0x00, 0xFD, 0x21], 0x0202) := by decide

/-- Vector V-U20. -/
theorem test_sbx_borrows : registersAfter (placed [0xCB, 0x20] [] { core0 with a := 0xFF, x := 0x10 }) =
    some ([0xFF, 0xF0, 0x00, 0xFD, 0xA0], 0x0202) := by decide

/-- Vector V-U22. -/
theorem test_sha : busAfter (placed [0x9F, 0x00, 0x12] [] { core0 with a := 0xFF, x := 0xFF, y := 0x01 }) =
    some [(.read, 0x0200, 0x9F), (.read, 0x0201, 0x00), (.read, 0x0202, 0x12), (.read, 0x1201, 0x00), (.write, 0x1201, 0x13)] := by decide

/-- Vector V-U23. -/
theorem test_shx_crosses : busAfter (placed [0x9E, 0xF0, 0x12] [] { core0 with x := 0xFF, y := 0x10 }) =
    some [(.read, 0x0200, 0x9E), (.read, 0x0201, 0xF0), (.read, 0x0202, 0x12), (.read, 0x1200, 0x00), (.write, 0x1300, 0x13)] := by decide

/-- Vector V-U24. -/
theorem test_shy : busAfter (placed [0x9C, 0x00, 0x20] [] { core0 with y := 0x0F }) =
    some [(.read, 0x0200, 0x9C), (.read, 0x0201, 0x00), (.read, 0x0202, 0x20), (.read, 0x2000, 0x00), (.write, 0x2000, 0x01)] := by decide

/-- Vector V-U25. -/
theorem test_tas : registersAfter (placed [0x9B, 0x00, 0x07] [] { core0 with a := 0xF3, x := 0x3F }) =
    some ([0xF3, 0x3F, 0x00, 0x33, 0x20], 0x0203) := by decide

/-- Vector V-U26. -/
theorem test_las : registersAfter (placed [0xBB, 0x00, 0x12] [(0x1200, [0x3C])] { core0 with s := 0xF0 }) =
    some ([0x30, 0x30, 0x00, 0x30, 0x20], 0x0203) := by decide

/-- Vector V-U27. -/
theorem test_nop_abs_reads : busAfter (placed [0x0C, 0x02, 0x20] [] core0) =
    some [(.read, 0x0200, 0x0C), (.read, 0x0201, 0x02), (.read, 0x0202, 0x20), (.read, 0x2002, 0x00)] := by decide

/-- Vector V-U28. -/
theorem test_nop_abx_crosses : busAfter (placed [0x1C, 0xFF, 0x20] [] { core0 with x := 0x01 }) =
    some [(.read, 0x0200, 0x1C), (.read, 0x0201, 0xFF), (.read, 0x0202, 0x20), (.read, 0x2000, 0x00), (.read, 0x2100, 0x00)] := by decide

/-- Vector V-U29. -/
theorem test_jam : busAfter (placed [0x02] [] core0) =
    some [(.read, 0x0200, 0x02)] := by decide

/-- Vector V-U29: after JAM the core is jammed at PC = 0x0201 and the report is Jammed. -/
theorem test_jam_reports :
    (match step (placed [0x02] [] core0) with
      | .next t => some (t.run, t.pc, t.active, t.report)
      | _ => none) = some (.jammed, 0x0201, none, some ⟨0, .jammed, 49⟩) := by decide

/-! ### The open constants and decimal mode, on the functions that take them as arguments -/

/-- The result and N, V, Z, C of an addition or subtraction. -/
def outcome (o : AluOut) : Byte × Bool × Bool × Bool × Bool := (o.r, o.n, o.v, o.z, o.c)

/-- ADC decimal table of 2.2: 58 + 46 + 1. -/
theorem test_adcDec_digits : outcome (adcDec 0x58 0x46 true) = (0x05, true, true, false, true) := by decide

/-- ADC decimal table of 2.2: 0F + 0F, no valid digits. -/
theorem test_adcDec_invalid_digits : outcome (adcDec 0x0F 0x0F false) = (0x14, false, false, false, false) := by decide

/-- ADC decimal table of 2.2: 99 + 99 + 1. -/
theorem test_adcDec_carries : outcome (adcDec 0x99 0x99 true) = (0x99, false, true, false, true) := by decide

/-- SBC decimal table of 2.2: 21 - 34. -/
theorem test_sbcDec_borrows : outcome (sbcDec 0x21 0x34 true) = (0x87, true, false, false, false) := by decide

/-- SBC decimal table of 2.2: 32 - 02 - 1. -/
theorem test_sbcDec_adjusts : outcome (sbcDec 0x32 0x02 false) = (0x29, false, false, false, true) := by decide

/-- Vector V-U15. -/
theorem test_arrDec_carries :
    arrDec ⟨false, false, true, false, false, false⟩ 0xFF = (0xD5, ⟨false, false, true, false, false, true⟩) := by
  decide

/-- Vector V-U16. -/
theorem test_arrDec_low_digit :
    arrDec ⟨false, false, true, false, false, true⟩ 0x0F = (0x8D, ⟨true, false, true, false, false, false⟩) := by
  decide

/-- Vector V-U17, with the magic FF. -/
theorem test_aneOut : aneOut 0xFF 0x00 0x0F 0xF3 = 0x03 := by decide

/-- Vector V-U18, with the magic EE. -/
theorem test_lxaOut : lxaOut 0xEE 0x00 0xFF = 0xEE := by decide

/-! ### Interrupts, reset, scheduler -/

/-- The interrupt vectors of 2.9: 0xFFFA holds 0x0400, 0xFFFE holds 0x0500. -/
def vectors : List (Nat × List Byte) := [(0xFFFA, [0x00, 0x04]), (0xFFFE, [0x00, 0x05])]

/-- Vector V-INT1, its first step: the edge is latched by the poll of the NOP's T2. -/
theorem test_edge_latched :
    (match step (placed [0xEA, 0xEA] vectors { core0 with nmiLine := true }) with
      | .next t => some (t.nmiPending, t.intPending, t.intVector, t.pc)
      | _ => none) = some (true, true, 0xFFFA, 0x0201) := by decide

/-- Vector V-INT1, its second step: the entry. -/
theorem test_edge_entry_bus :
    busAfter (placed [] vectors
      { core0 with
        pc := 0x0201, nmiLine := true, nmiPrev := true, nmiPending := true, intPending := true, intVector := 0xFFFA }) =
    some [(.read, 0x0201, 0x00), (.read, 0x0201, 0x00), (.write, 0x01FD, 0x02), (.write, 0x01FC, 0x01),
      (.write, 0x01FB, 0x20), (.read, 0xFFFA, 0x00), (.read, 0xFFFB, 0x04)] := by decide

/-- Vector V-INT1: after the entry PC = 0x0400, I = 1, and nothing is pending. -/
theorem test_edge_entry_state :
    (match step (placed [] vectors
        { core0 with
          pc := 0x0201, nmiLine := true, nmiPrev := true, nmiPending := true, intPending := true
          intVector := 0xFFFA }) with
      | .next t => some (t.pc, t.p.live, t.nmiPending, t.intPending)
      | _ => none) = some (0x0400, 0x24, false, false) := by decide

/-- Vector V-INT5: a level line is served with vector FFFE and pushes P with bit 4 clear. -/
theorem test_level_entry :
    registersAfter (placed [] vectors { core0 with pc := 0x0201, irqLines := 1, intPending := true }) =
      some ([0x00, 0x00, 0x00, 0xFA, 0x24], 0x0500) := by decide

/-- Vector V-INT6: a level line released before the poll leaves nothing. -/
theorem test_level_not_latched :
    (match step (placed [0xEA] vectors { core0 with irqLines := 0, intPending := false }) with
      | .next t => some (t.intPending, t.nmiPending)
      | _ => none) = some (false, false) := by decide

/-- Vector V-RST1: the reset sequence after HardReset. -/
theorem test_reset_bus :
    busAfter { State.reset with
        mem := [(0xFFFD, 0x80)], sched := ⟨7 + 1, 0, 0, .active⟩, active := some 0 } =
      some [(.read, 0x0000, 0x00), (.read, 0x0000, 0x00), (.read, 0x0100, 0x00), (.read, 0x01FF, 0x00),
        (.read, 0x01FE, 0x00), (.read, 0xFFFC, 0x00), (.read, 0xFFFD, 0x80)] := by decide

/-- Vector V-RST1: S = FD, P = 24, PC = 8000. -/
theorem test_reset_state :
    registersAfter { State.reset with
        mem := [(0xFFFD, 0x80)], sched := ⟨7 + 1, 0, 0, .active⟩, active := some 0 } =
      some ([0x00, 0x00, 0x00, 0xFD, 0x24], 0x8000) := by decide

/-- Vector V-RST2: SoftReset keeps the registers but for I. -/
theorem test_softReset :
    (match driverCall (.softReset 0)
        (withP 0xA1 { core0 with active := none, sched := ⟨50, 0, 0, .suspended⟩, s := 0xF0, a := 0x12 }) with
      | .next t => some (t.a, t.s, t.p.live, t.resetReq)
      | _ => none) = some (0x12, 0xF0, 0xA5, .reset) := by decide

/-- R363: SoftReset of a core that yielded in a transaction marked [S] leaves the sampler, its suspend flag included. -/
theorem test_softReset_sampler :
    (match driverCall (.softReset 0)
        { core0 with
          active := none, sched := ⟨0, 9, 0, .suspended⟩, position := .inTxn .entry 6 0, suspend := true, intPending := true } with
      | .next t => some (t.suspend, t.intPending, t.position)
      | _ => none) = some (true, true, .boundary) := by decide

/-- R362: R1 polls, after such a SoftReset too; the core yields in R1. -/
theorem test_reset_polls :
    (match step { core0 with resetReq := .reset, suspend := true, nmiLine := true, sched := ⟨1, 0, 0, .active⟩ } with
      | .next t => some (t.nmiPending, t.suspend, t.position)
      | _ => none) = some (true, false, .inTxn .reset 0 0) := by decide

/-- Vector V-SCH1: without budget Resume reports at once. -/
theorem test_resume_exhausted :
    (match step { State.reset with driver := [.resume 0] } with
      | .next t => some (t.report, t.history, t.active)
      | _ => none) = some (some ⟨0, .exhausted, 0⟩, [], none) := by decide

/-- Vector V-SCH2: five granted cycles make R1 to R5, then the core yields inside the reset sequence. -/
theorem test_yield_in_reset :
    (match step { State.reset with sched := ⟨5, 0, 0, .active⟩, active := some 0 } with
      | .next t => some (t.report, t.sched.clock, t.history.length, t.position)
      | _ => none) = some (some ⟨0, .exhausted, 0⟩, 5, 5, .inTxn .reset 4 0x00) := by decide

/-- Vector V-SCH5: R1 accounts the stall, and nine cycles end with R7. -/
theorem test_stall_accounted :
    (match step { State.reset with sched := ⟨9, 0, 2, .active⟩, active := some 0 } with
      | .next t => some (t.report, t.sched.clock, t.history.length)
      | _ => none) = some (some ⟨0, .exhausted, 0⟩, 9, 7) := by decide

/-- Vector V-SCH6: Resume of an aborted core is refused. -/
theorem test_resume_aborted_refused :
    step { State.reset with sched := ⟨5, 0, 0, .aborted⟩, driver := [.resume 0] } =
      .refused (.outOfContract .resumeAborted) := rfl

/-- Vector V-SCH7: a grant pays a debt first. -/
theorem test_grant_pays_debt :
    (match step { State.reset with sched := ⟨-3, 0, 0, .suspended⟩, driver := [.grantCycles 0 2] } with
      | .next t => some t.sched.budget
      | _ => none) = some (-1) := by decide

/-- Log 6: an instruction placed by `withFetchWord` is the first one after reset. -/
theorem test_withFetchWord :
    registersAfter (State.reset.withFetchWord 8 0xE8) = some ([0x00, 0x01, 0x00, 0x00, 0x24], 0x0001) := by decide

/-! ### Witnesses: for each statement with hypotheses, a concrete state that meets them all -/

/-- Whether a step answers a next state of which `p` holds. -/
def nextHolds (r : Result) (p : State → Bool) : Bool :=
  match r with
  | .next t => p t
  | _ => false

theorem next_of_holds {r : Result} {p : State → Bool} (h : nextHolds r p = true) : ∃ t, r = .next t ∧ p t = true := by
  cases r with
  | next t => exact ⟨t, rfl, h⟩
  | fault f => cases h
  | refused r => cases h

/-- All that `Ready` asks, decided. -/
theorem ready_of {s : State} (h : (decide (s.position = .boundary) && decide (s.devices = []) && !s.suspend &&
    Memory.wf s.mem && decide (7 + (s.sched.stallPending : Int) < s.sched.budget)) = true) : Ready s := by
  simp only [Bool.and_eq_true, decide_eq_true_eq, Bool.not_eq_true'] at h
  exact ⟨h.1.1.1.1, h.1.1.1.2, h.1.1.2, h.1.2, h.2⟩

/-- DecimalAdjustIsBcdArithmetic: digits at both ends. -/
theorem test_witness_digits : (0 : Nat) < 10 ∧ (9 : Nat) < 10 := by decide

/-- MemoryReadsBackTheLastWrite: a memory with the first and the last address listed, a write at the last. -/
theorem test_witness_memory : Memory.wf [(0, 0x01), (65535, 0x02)] = true ∧ 65535 < 65536 ∧
    (∀ a, Memory.read [(0, 0x01)] a = Memory.read [(0, 0x01)] a) := ⟨rfl, by decide, fun _ => rfl⟩

/-- A ready state whose indexed operands cross a page: base 0x12F0, pointer target 0x12F0 at 0x00F0, X = Y = 0x20. -/
def crossing : State :=
  placed [0xF0, 0x12] [(0x00F0, [0xF0, 0x12])] { core0 with x := 0x20, y := 0x20, sched := ⟨50, 3, 2, .active⟩ }

/-- A ready state whose indexed operands stay in their page: the index registers are 0. -/
def level : State := placed [0xF0, 0x12] [(0x00F0, [0xF0, 0x12])] core0

/-- Every statement whose hypothesis is Ready (the families of instructions, the reset sequence): a state where the
indexed modes cross a page. -/
theorem test_witness_ready_crossing : Ready crossing ∧ crossed .absoluteX crossing = true ∧
    crossed .absoluteY crossing = true ∧ crossed .indirectIndexed crossing = true :=
  ⟨ready_of (by decide), by decide⟩

/-- The same: a state where they do not. -/
theorem test_witness_ready_level : Ready level ∧ crossed .absoluteX level = false ∧
    crossed .absoluteY level = false ∧ crossed .indirectIndexed level = false :=
  ⟨ready_of (by decide), by decide⟩

/-- The budget of Ready at its boundary: one more than the pending stalls and seven transactions. -/
theorem test_witness_ready_budget : Ready { core0 with sched := ⟨10, 0, 2, .active⟩ } := ready_of (by decide)

/-- BranchesMoveOnlyPc: taken to another page (BEQ with Z = 1 at the end of a page). -/
theorem test_witness_branch_crosses :
    Ready (placed [0x7F] [] (withP 0x22 { core0 with pc := 0x02F0 })) ∧
    branchCrosses (placed [0x7F] [] (withP 0x22 { core0 with pc := 0x02F0 })) = true :=
  ⟨ready_of (by decide), by decide⟩

/-- BranchesMoveOnlyPc: taken within the page, and (Z = 0) not taken. -/
theorem test_witness_branch_in_page :
    Ready (placed [0x05] [] (withP 0x22 core0)) ∧ branchCrosses (placed [0x05] [] (withP 0x22 core0)) = false ∧
    Ready (placed [0x05] [] core0) ∧ core0.p.z = false :=
  ⟨ready_of (by decide), by decide, ready_of (by decide), by decide⟩

/-- JamStopsTheContext. -/
theorem test_witness_jam : core0.position = .boundary := rfl

/-- StepRunsTheDecodedInstruction: LDA #5 at PC, the budget at its boundary. -/
theorem test_witness_step :
    let s := placed [0xA9, 0x05] [] { core0 with sched := ⟨2, 0, 0, .active⟩ }
    s.active = some 0 ∧ s.run = .running ∧ s.resetReq = .none ∧ s.intPending = false ∧ s.position = .boundary ∧
      s.devices = [] ∧ s.suspend = false ∧ Memory.wf s.mem = true ∧
      1 + (s.sched.stallPending : Int) < s.sched.budget ∧
      decode [peek s s.pc, peek s (s.pc + 1), peek s (s.pc + 2)] = .ok (⟨.ldaImm, [0x05]⟩, [0x00]) := by decide

/-- TransactionCountsAreTheTables: an indexed read that crosses a page, and a jam. -/
theorem test_witness_counts :
    (Ready crossing ∧ ∃ t, exec .ldaAbx crossing = .next t ∧ decide (t.sched.clock = 9) = true) ∧
    (Ready core0 ∧ ∃ t, exec .jam02 core0 = .next t ∧ decide (t.sched.clock = 0) = true) :=
  ⟨⟨ready_of (by decide), next_of_holds (by decide)⟩, ready_of (by decide), next_of_holds (by decide)⟩

/-- BoundaryTakesFirstApplicableAction: one state for each clause. -/
theorem test_witness_boundary :
    core0.active = some 0 ∧ core0.position = .boundary ∧
    ({ core0 with run := .jammed } : State).run = .jammed ∧
    ({ core0 with run := .faulted (.thrown 1) } : State).run = .faulted (.thrown 1) ∧
    ({ core0 with resetReq := .reset } : State).resetReq = .reset ∧ core0.run = .running ∧ core0.resetReq = .none ∧
    ({ core0 with intPending := true } : State).intPending = true ∧ core0.intPending = false := by decide

/-- BoundaryTakesFirstApplicableAction: inside each sequence, with an interrupt pending. -/
theorem test_witness_inside :
    ({ core0 with position := .inTxn .instr 0 0xEA, intPending := true } : State).position = .inTxn .instr 0 0xEA ∧
    ({ core0 with position := .inTxn .instr 1 0, intPending := true } : State).position = .inTxn .instr (0 + 1) 0 ∧
    ({ core0 with position := .inTxn .entry 6 0 } : State).position = .inTxn .entry 6 0 ∧
    ({ core0 with position := .inTxn .reset 6 0 } : State).position = .inTxn .reset 6 0 ∧
    core0.active = some 0 := by decide

/-- InterruptEntryPushesAndVectors: both vectors. -/
theorem test_witness_entry :
    (Ready { core0 with intVector := 0xFFFA, nmiPending := true } ∧
      VectorOk { core0 with intVector := 0xFFFA, nmiPending := true }) ∧
    (Ready core0 ∧ VectorOk core0) :=
  ⟨⟨ready_of (by decide), .inl rfl⟩, ready_of (by decide), .inr rfl⟩

/-- ResetSequenceReadsItsVector: a polling suspension that a SoftReset left, and none. -/
theorem test_witness_reset :
    Ready { ({ core0 with suspend := true } : State) with suspend := false } ∧ Ready { core0 with suspend := false } :=
  ⟨ready_of (by decide), ready_of (by decide)⟩

/-- SuspendedTransactionsDoNotPoll: a taken branch within its page, going on from T2, the edge line high. -/
theorem test_witness_suspended_branch :
    let s : State := { core0 with
      position := .inTxn .instr 1 0x05, nmiLine := true, sched := ⟨2, 0, 0, .active⟩ }
    s.devices = [] ∧ 1 + (s.sched.stallPending : Int) < s.sched.budget ∧ s.p.z = false ∧
      hi8 (s.pc + 1 + (0x05 : Byte).signExtend 16) = hi8 (s.pc + 1) ∧
      ∃ t, exec .bne s = .next t ∧ decide (t.pc = 0x0206) = true :=
  ⟨by decide, by decide, by decide, by decide, next_of_holds (by decide)⟩

/-- SuspendedTransactionsDoNotPoll: a taken branch to another page, going on from T3. -/
theorem test_witness_suspended_crossing :
    let s : State := { core0 with
      position := .inTxn .instr 2 0x00, nmiLine := true, latch := { Latches.clear with c := true, target := 0x0302 } }
    s.devices = [] ∧ 1 + (s.sched.stallPending : Int) < s.sched.budget ∧ s.p.z = false ∧ s.latch.c = true ∧
      ∃ t, exec .bne s = .next t ∧ decide (t.pc = 0x0302) = true :=
  ⟨by decide, by decide, by decide, by decide, next_of_holds (by decide)⟩

/-- SuspendedTransactionsDoNotPoll: BRK, an entry and the reset sequence, going on from the transaction before the last. -/
theorem test_witness_suspended_vectors :
    (∃ t, exec .brk { core0 with position := .inTxn .instr 5 0x34, nmiLine := true } = .next t ∧
      decide (t.pc = 0x0034) = true) ∧
    (∃ t, resumeEntry { core0 with position := .inTxn .entry 5 0x34, nmiLine := true } = .next t ∧
      decide (t.pc = 0x0034) = true) ∧
    (∃ t, resumeReset { core0 with position := .inTxn .reset 5 0x34, nmiLine := true } = .next t ∧
      decide (t.pc = 0x0034) = true) :=
  ⟨next_of_holds (by decide), next_of_holds (by decide), next_of_holds (by decide)⟩

/-- HeldLineNeverRelatches: the line high, and low. -/
theorem test_witness_line : ({ core0 with nmiLine := true } : State).nmiLine = true ∧ core0.nmiLine = false := by
  decide

/-- EdgeRequestWaitsForItsEntry: the entry clears the request. -/
theorem test_witness_edge_entry :
    ∃ t, step { core0 with nmiPending := true, intPending := true, intVector := 0xFFFA } = .next t ∧
      decide (t.nmiPending = false) = true := next_of_holds (by decide)

/-- EdgeRequestWaitsForItsEntry: HardReset clears the request. -/
theorem test_witness_edge_hardReset :
    ∃ t, step { core0 with
        nmiPending := true, active := none, sched := ⟨0, 0, 0, .suspended⟩, driver := [.hardReset 0] } = .next t ∧
      decide (t.nmiPending = false) = true := next_of_holds (by decide)

/-- EdgeRequestWaitsForItsEntry, second part: the lines released, and masked. -/
theorem test_witness_level_released :
    core0.nmiPending = false ∧ (core0.nmiLine && !core0.nmiPrev) = false ∧ core0.irqLines = 0 ∧
    (withP 0x24 { core0 with irqLines := 1 }).p.i = true := by decide

/-- The core stopped, as the driver's calls find it. -/
def stopped : State := { core0 with active := none, sched := ⟨0, 7, 0, .suspended⟩ }

/-- HardResetSetsPowerOnValues, SoftResetKeepsRegisters, ResumeHonoursBudgetAndRunState, AbortAndMisuse: the core idle,
suspended and aborted; jammed, faulted, without and with budget. -/
theorem test_witness_driver :
    stopped.active = none ∧ stopped.sched.ctx = .suspended ∧ State.reset.sched.ctx = .idle ∧ stopped.sched.ctx ≠ .active ∧
    ({ stopped with sched := ⟨0, 0, 0, .aborted⟩ } : State).sched.ctx = .aborted ∧
    ({ stopped with run := .jammed } : State).run = .jammed ∧
    ({ stopped with run := .faulted (.notAByte 256) } : State).run = .faulted (.notAByte 256) ∧
    stopped.run = .running ∧ stopped.sched.budget ≤ 0 ∧
    0 < ({ stopped with sched := ⟨1, 0, 0, .idle⟩ } : State).sched.budget := by decide

/-- GrantsAndStallsAreAdditive: n = 0 and n = -1. -/
theorem test_witness_grant : (0 : Int) ≤ 0 ∧ (-1 : Int) < 0 := by decide

/-- AssertLineChangesOnlyTheLine: source 0 is known (there is at least one), source NIRQ is not. -/
theorem test_witness_sources : 0 < Config.nirq ∧ Config.nirq ≤ Config.nirq :=
  ⟨by simp [Config.nirq, Config.irqSources], Nat.le_refl _⟩

/-- TransactionAccountsRecordsAndYields: plain memory. -/
theorem test_witness_plain : core0.devices = [] := rfl

/-- DeviceTransactionsFollowTheReply: the ends of a device window, and another bank. -/
theorem test_witness_device :
    toDevice (readTxn 0xD000) { core0 with devices := [⟨0xD000, 0xD0FF⟩] } = true ∧
    toDevice (readTxn 0xD0FF) { core0 with devices := [⟨0xD000, 0xD0FF⟩] } = true ∧
    toDevice ⟨.write, 0x0000, 0x01, 0x01⟩ core0 = true := by decide

/-- YieldAndResumptionAreTransparent: an instruction that yields in its second of three transactions. -/
theorem test_witness_yield :
    let s : State := { core0 with sched := ⟨1, 0, 0, .active⟩ }
    s.active = some 0 ∧ s.sched.ctx = .active ∧ s.run = .running ∧
    (∃ t, exec .ldaAbs s = .next t ∧
      decide (t.position ≠ .boundary ∧ t.run = .running ∧ (0 : Int) ≤ 1 ∧ 0 < t.sched.budget + 1) = true) ∧
    (∃ t, resumeEntry s = .next t ∧
      decide (t.position ≠ .boundary ∧ t.run = .running ∧ (0 : Int) ≤ 1 ∧ 0 < t.sched.budget + 1) = true) ∧
    (∃ t, resumeReset s = .next t ∧
      decide (t.position ≠ .boundary ∧ t.run = .running ∧ (0 : Int) ≤ 1 ∧ 0 < t.sched.budget + 1) = true) :=
  ⟨rfl, rfl, rfl, next_of_holds (by decide), next_of_holds (by decide), next_of_holds (by decide)⟩

/-- The core jammed, with the driver's calls to come. -/
def jammedCore (calls : List Call) : State := { stopped with run := .jammed, driver := calls }

theorem inv_core0 : Inv core0 :=
  ⟨rfl, Nat.two_pow_pos _, .inr rfl, ⟨by decide, by simp [core0, State.reset], by simp [core0], by simp [core0, State.reset]⟩,
    trivial⟩

theorem inv_jammedCore (calls : List Call) : Inv (jammedCore calls) :=
  ⟨rfl, Nat.two_pow_pos _, .inr rfl,
    ⟨by simp [jammedCore, stopped], by simp [jammedCore, stopped, core0, State.reset], by simp [jammedCore, stopped],
      by simp [jammedCore, stopped]⟩, trivial⟩

/-- EveryStepKeepsTheInvariant, RetainedPositionsCanAlwaysContinue, HistoryOnlyGrows, ClockMovesOnlyWithTransactions: the
core running an instruction. -/
theorem test_witness_step_inv :
    Inv core0 ∧ (∃ t, step core0 = .next t ∧ decide (t.history.length = 7) = true) ∧
    ¬ (core0.active = none ∧ core0.driver.head? = some (.hardReset 0)) :=
  ⟨inv_core0, next_of_holds (by decide), by decide⟩

/-- JamIsLeftOnlyByReset: nothing to do, and the two resets. -/
theorem test_witness_jammed :
    (Inv (jammedCore []) ∧ (jammedCore []).run = .jammed ∧
      ∃ t, step (jammedCore []) = .next t ∧ decide (t.run = .jammed) = true) ∧
    (Inv (jammedCore [.hardReset 0]) ∧
      ∃ t, step (jammedCore [.hardReset 0]) = .next t ∧ decide (t.run = .running) = true) ∧
    (Inv (jammedCore [.softReset 0]) ∧
      ∃ t, step (jammedCore [.softReset 0]) = .next t ∧ decide (t.run = .running) = true) :=
  ⟨⟨inv_jammedCore _, rfl, next_of_holds (by decide)⟩, ⟨inv_jammedCore _, next_of_holds (by decide)⟩,
    inv_jammedCore _, next_of_holds (by decide)⟩

/-- Another context: life state `c`, execution state `run`, budget `n`, at a boundary with a reset sequence due. -/
def other (c : CtxState) (run : Run) (n : Int) : OtherContext := ⟨⟨n, 0, 0, c⟩, run, .reset, 0, 0⟩

/-- OtherContextsLeaveTheCoreAlone: another context is active and running, all of memory plain. -/
theorem test_witness_other :
    let s : State := { stopped with others := [other .active .running 5], active := some 1 }
    s.active = some (0 + 1) ∧ s.others[0]? = some (other .active .running 5) ∧
      (other .active .running 5).run = .running ∧ toDevice ⟨.read, 0x1234, 0, 0⟩ s = false := by decide

/-- The statements about calls on another context (HardReset, SoftReset, Resume, Abort, GrantCycles, Stall): idle with
budget, suspended without, jammed, faulted, aborted, and a handle without a context. -/
theorem test_witness_other_calls :
    let s : State := { stopped with
      others := [other .idle .running 1, other .suspended .running 0, other .suspended .jammed 1,
        other .suspended (.faulted (.thrown 1)) 1, other .aborted .running 1] }
    s.active = none ∧ s.others[0]? = some (other .idle .running 1) ∧
      s.others[1]? = some (other .suspended .running 0) ∧ s.others[2]? = some (other .suspended .jammed 1) ∧
      s.others[3]? = some (other .suspended (.faulted (.thrown 1)) 1) ∧
      s.others[4]? = some (other .aborted .running 1) ∧ s.others.length ≤ 5 := by decide

/-- AbortAndMisuse: a context is active. ResumeHonoursBudgetAndRunState: the driver's list empty, and not. -/
theorem test_witness_active : core0.active ≠ none ∧ stopped.active = none ∧ stopped.driver = [] ∧
    ({ stopped with driver := [.abort 0] } : State).driver = [.abort 0] := by decide

/-- R33, R360, R363: SoftReset of another context makes a reset sequence due at a boundary. -/
theorem test_softReset_other :
    nextHolds
      (step { stopped with
        others := [⟨⟨3, 9, 0, .suspended⟩, .jammed, .none, 4, 7⟩], driver := [.softReset 1] })
      (fun t => t.others == [⟨⟨3, 9, 0, .idle⟩, .running, .reset, 0, Config.otherSoftReset 0 7⟩]) = true := by
  simp [step, driverStep, driverCall, whenNoneActive, lifeCall, schedOf, softResetOk, softResetOther, updateOther, stopped,
    nextHolds]

/-- R334, R364: Resume while a context is active is refused. -/
theorem test_resume_while_active_refused :
    driverCall (.resume 0) core0 = .refused (.outOfContract .whileActive) := rfl

/-- R293 with R341 (log 31): GrantCycles raises the budget of a jammed core. -/
theorem test_grant_jammed :
    nextHolds (step (jammedCore [.grantCycles 0 4])) (fun t => decide (t.sched.budget = 4 ∧ t.run = .jammed)) = true := by
  decide

/-- YieldAndResumptionAreTransparent: a step that yields in its opcode fetch. -/
theorem test_witness_yield_fetch :
    let s : State := { core0 with sched := ⟨1, 0, 0, .active⟩ }
    s.active = some 0 ∧ s.sched.ctx = .active ∧ s.run = .running ∧
    ∃ t, step s = .next t ∧
      decide (t.position = .inTxn .instr 0 0x00 ∧ t.run = .running ∧ 0 < t.sched.budget + 1) = true :=
  ⟨rfl, rfl, rfl, next_of_holds (by decide)⟩

end Sys2Proof.Tests
end

section
/-! SUPPORT. The steps of the machine while no context is active: the driver's next call, and what `Resume` answers for a context, the core and the others alike, from its life state, its execution state and its budget (R8, R342). -/

namespace Sys2Proof.Proofs

open Sys2Proof.Machine Sys2Proof.Laws

/-! ### The driver's step -/

/-- While no context is active the driver acts (R340). -/
theorem step_eq_driverStep {s : State} (ha : s.active = none) : step s = driverStep s := by
  simp only [step, ha]

/-- Log 5: a driver without calls leaves the machine as it is. -/
theorem driverStep_nil {s : State} (hd : s.driver = []) : driverStep s = .next s := by
  simp only [driverStep, hd]

theorem driverStep_cons {s : State} {c : Call} {rest : List Call} (hd : s.driver = c :: rest) :
    driverStep s = driverCall c { s with driver := rest } := by
  simp only [driverStep, hd]

theorem whenNoneActive_of_none {s : State} (r : Result) (ha : s.active = none) : whenNoneActive r s = r := by
  simp only [whenNoneActive, ha]

theorem driverCall_resume {s : State} (h : Nat) (ha : s.active = none) : driverCall (.resume h) s = resume h s :=
  whenNoneActive_of_none _ ha

/-! ### The scheduler and execution state of a handle -/

theorem schedOf_other {s : State} {k : Nat} {o : OtherContext} (ho : s.others[k]? = some o) :
    schedOf (k + 1) s = some o.sched := by
  simp only [schedOf, ho, Option.map_some]

@[simp] theorem runOf_core (s : State) : runOf 0 s = some s.run := rfl

theorem runOf_other {s : State} {k : Nat} {o : OtherContext} (ho : s.others[k]? = some o) :
    runOf (k + 1) s = some o.run := by
  simp only [runOf, ho, Option.map_some]

/-- Activating another context changes its life state and the arbiter's holder, nothing else. -/
theorem activate_other_eq_set {s : State} {k : Nat} {o : OtherContext} (ho : s.others[k]? = some o) :
    activate (k + 1) s =
      { s with
        active := some (k + 1)
        others := s.others.set k { o with sched := { o.sched with ctx := .active } } } :=
  updateOther_eq_set (s := { s with active := some (k + 1) }) _ ho

/-! ### The decision of Resume (R342) -/

/-- R334: an aborted context cannot be resumed, whatever its execution state and budget. -/
theorem resumeDecision_aborted {q : Sched} (run : Run) (hc : q.ctx = .aborted) :
    resumeDecision q run = .refused .resumeAborted := by
  simp only [resumeDecision, hc]

section
variable {q : Sched} (hc : q.ctx = .idle ∨ q.ctx = .suspended)
include hc

theorem resumeDecision_jammed : resumeDecision q .jammed = .report .jammed := by
  obtain hc | hc := hc <;> simp only [resumeDecision, hc]

theorem resumeDecision_faulted (e : Payload) : resumeDecision q (.faulted e) = .report (.faulted e) := by
  obtain hc | hc := hc <;> simp only [resumeDecision, hc]

/-- R342: of a running context the budget decides. -/
theorem resumeDecision_running :
    resumeDecision q .running = if q.budget ≤ 0 then .report .exhausted else .start := by
  obtain hc | hc := hc <;> simp only [resumeDecision, hc]

end

/-! ### What Resume does with each decision -/

section
variable {h : Nat} {s : State} {q : Sched} {run : Run}

theorem resume_of_refused {m : Misuse} (hq : schedOf h s = some q) (hr : runOf h s = some run)
    (hd : resumeDecision q run = .refused m) : resume h s = .refused (.outOfContract m) := by
  simp only [resume, hq, hr, hd]

theorem resume_of_report {status : Status} (hq : schedOf h s = some q) (hr : runOf h s = some run)
    (hd : resumeDecision q run = .report status) :
    resume h s = .next { s with report := some ⟨h, status, q.budget⟩ } := by
  simp only [resume, hq, hr, hd]

theorem resume_of_start (hq : schedOf h s = some q) (hr : runOf h s = some run)
    (hd : resumeDecision q run = .start) : resume h s = .next (activate h s) := by
  simp only [resume, hq, hr, hd]

end

/-! ### Resume of any context -/

/-- What R342 asks of `Resume` of a context with handle `h`, scheduler state `q` and execution state `run`. -/
structure ResumeAnswers (h : Nat) (q : Sched) (run : Run) (s : State) : Prop where
  aborted : q.ctx = .aborted → driverCall (.resume h) s = .refused (.outOfContract .resumeAborted)
  jammed : q.ctx = .idle ∨ q.ctx = .suspended → run = .jammed →
    driverCall (.resume h) s = .next { s with report := some ⟨h, .jammed, q.budget⟩ }
  faulted : q.ctx = .idle ∨ q.ctx = .suspended → ∀ e, run = .faulted e →
    driverCall (.resume h) s = .next { s with report := some ⟨h, .faulted e, q.budget⟩ }
  exhausted : q.ctx = .idle ∨ q.ctx = .suspended → run = .running → q.budget ≤ 0 →
    driverCall (.resume h) s = .next { s with report := some ⟨h, .exhausted, q.budget⟩ }
  starts : q.ctx = .idle ∨ q.ctx = .suspended → run = .running → 0 < q.budget →
    driverCall (.resume h) s = .next (activate h s)

/-- While no context is active `Resume` answers so for every context there is, the core or another. -/
theorem resume_answers {h : Nat} {s : State} {q : Sched} {run : Run} (ha : s.active = none)
    (hq : schedOf h s = some q) (hr : runOf h s = some run) : ResumeAnswers h q run s := by
  constructor <;> rw [driverCall_resume h ha]
  case aborted =>
    intro hc
    exact resume_of_refused hq hr (resumeDecision_aborted run hc)
  case jammed =>
    rintro hc rfl
    exact resume_of_report hq hr (resumeDecision_jammed hc)
  case faulted =>
    rintro hc e rfl
    exact resume_of_report hq hr (resumeDecision_faulted hc e)
  case exhausted =>
    rintro hc rfl hb
    exact resume_of_report hq hr ((resumeDecision_running hc).trans (if_pos hb))
  case starts =>
    rintro hc rfl hb
    exact resume_of_start hq hr ((resumeDecision_running hc).trans (if_neg (by omega)))

/-- Settles O47: the answers of `Resume` are those of `resume_answers` for the core and for each other context, with the
activation written out as an update of the state. -/
theorem resumeHonoursBudgetAndRunState : Obligations.ResumeHonoursBudgetAndRunState := by
  unfold Obligations.ResumeHonoursBudgetAndRunState
  intro s ha
  have core := resume_answers ha (schedOf_core s) (runOf_core s)
  refine ⟨?noCall, ?nextCall, core.aborted, ?core, ?other⟩
  case noCall => exact fun hd => (step_eq_driverStep ha).trans (driverStep_nil hd)
  case nextCall => exact fun c rest hd => (step_eq_driverStep ha).trans (driverStep_cons hd)
  case core => exact fun hc => ⟨core.jammed hc, core.faulted hc, core.exhausted hc, core.starts hc⟩
  case other =>
    intro k o ho
    have other := resume_answers ha (schedOf_other ho) (runOf_other ho)
    refine ⟨other.aborted, fun hc => ⟨other.jammed hc, other.faulted hc, other.exhausted hc, fun hrun hb => ?_⟩⟩
    rw [other.starts hc hrun hb, activate_other_eq_set ho]

end Sys2Proof.Proofs
end

section
/-! SUPPORT. The invariant of the machine (R31 to R35, R340): what a change of state must leave alone to keep it, shown once for each operation of the bus, the driver and the sequences, and from that for every step. -/

namespace Sys2Proof.Proofs

open Sys2Proof.Machine Sys2Proof.Safety Sys2Proof.Laws

/-! ### The position -/

/-- The sequence has a transaction `k`; of an instruction, `ir` is the opcode (R97, R321, R362). -/
def HasTxn (ir : Byte) : SeqKind → Nat → Prop
  | .instr, k => k = 0 ∨ k < maxCount (decodeOpcode ir)
  | .entry, k => k < 7
  | .reset, k => k < 7

theorem hasTxn_fetch {ir : Byte} : HasTxn ir .instr 0 := .inl rfl

theorem hasTxn_instr {ir : Byte} {k : Nat} (hk : k < maxCount (decodeOpcode ir)) : HasTxn ir .instr k := .inr hk

/-- The retained position, where there is one, names a transaction of its sequence. -/
theorem positionOk_iff {s : State} : PositionOk s ↔ ∀ q k d, s.position = .inTxn q k d → HasTxn s.ir q k := by
  unfold PositionOk
  cases hp : s.position with
  | boundary => simp
  | inTxn q k d => cases q <;> simp [HasTxn]

theorem positionOk_boundary {s : State} (hp : s.position = .boundary) : PositionOk s := by
  simp only [PositionOk, hp]

/-! ### Changes that keep the invariant -/

/-- What the arbiter's book-keeping reads of the other contexts: their life states. -/
def lifeStates (s : State) (k : Nat) : Option CtxState := (s.others[k]?).map fun o => o.sched.ctx

/-- `t` follows `s` by a change that the invariant does not see: the parts it bounds stay within their bounds, the arbiter's
book-keeping, the opcode and the position stay as they are. -/
structure Steady (s t : State) : Prop where
  memory : Memory.wf s.mem = true → Memory.wf t.mem = true
  lines : LinesOk s → LinesOk t
  vector : VectorOk s → VectorOk t
  active : t.active = s.active
  ctx : t.sched.ctx = s.sched.ctx
  others : lifeStates t = lifeStates s
  run : t.run = s.run
  ir : t.ir = s.ir
  position : t.position = s.position

theorem Steady.refl (s : State) : Steady s s := ⟨id, id, id, rfl, rfl, rfl, rfl, rfl, rfl⟩

theorem Steady.trans {s t u : State} (h₁ : Steady s t) (h₂ : Steady t u) : Steady s u where
  memory := h₂.memory ∘ h₁.memory
  lines := h₂.lines ∘ h₁.lines
  vector := h₂.vector ∘ h₁.vector
  active := h₂.active.trans h₁.active
  ctx := h₂.ctx.trans h₁.ctx
  others := h₂.others.trans h₁.others
  run := h₂.run.trans h₁.run
  ir := h₂.ir.trans h₁.ir
  position := h₂.position.trans h₁.position

/-- The book-keeping in terms of what it reads: the holder, the life states and the core's run state. -/
theorem arbiterOk_iff {s : State} :
    ArbiterOk s ↔
      (s.active = some 0 ↔ s.sched.ctx = .active) ∧
      (∀ k c, lifeStates s k = some c → (s.active = some (k + 1) ↔ c = .active)) ∧
      (∀ k, s.active = some (k + 1) → lifeStates s k ≠ none) ∧
      (s.run ≠ .running → s.active ≠ some 0) := by
  simp only [ArbiterOk, lifeStates, Option.map_eq_some_iff, forall_exists_index, and_imp, forall_apply_eq_imp_iff₂, ne_eq,
    Option.map_eq_none_iff, List.getElem?_eq_none_iff, not_le]

theorem Steady.arbiterOk {s t : State} (h : Steady s t) (ha : ArbiterOk s) : ArbiterOk t := by
  rw [arbiterOk_iff] at ha ⊢
  rwa [h.active, h.ctx, h.others, h.run]

theorem Steady.inv {s t : State} (h : Steady s t) (hi : Inv s) : Inv t where
  memory := h.memory hi.memory
  lines := h.lines hi.lines
  vector := h.vector hi.vector
  arbiter := h.arbiterOk hi.arbiter
  position := by
    have hp := positionOk_iff.mp hi.position
    rwa [positionOk_iff, h.position, h.ir]

/-! ### Steady operations -/

theorem steady_poke (s : State) (a : Word) (v : Byte) : Steady s (poke s a v) :=
  { Steady.refl s with memory := wf_poke s a v }

/-- R313: a poll selects the edge line's or the level lines' vector. -/
theorem vectorOk_poll (s : State) : VectorOk (poll s) := by
  simp only [VectorOk, poll_intVector]
  split
  · exact .inl rfl
  · exact .inr rfl

theorem steady_polled (sus : Bool) (s : State) : Steady s (polled sus s) := by
  unfold polled
  split
  · exact { Steady.refl s with }
  · exact { Steady.refl s with vector := fun _ => vectorOk_poll _ }

theorem lifeStates_updateOther (k : Nat) (f : OtherContext → OtherContext) (s : State) (j : Nat) :
    lifeStates (updateOther k f s) j =
      (s.others[j]?).map fun o => if k = j then (f o).sched.ctx else o.sched.ctx := by
  simp only [lifeStates, updateOther_others, List.getElem?_modify]
  cases s.others[j]? with
  | none => rfl
  | some o => by_cases hj : k = j <;> simp [hj]

theorem steady_updateOther (k : Nat) {f : OtherContext → OtherContext} (s : State)
    (hf : ∀ o, (f o).sched.ctx = o.sched.ctx) : Steady s (updateOther k f s) :=
  { Steady.refl s with
    others := by
      funext j
      rw [lifeStates_updateOther]
      simp only [hf, ite_self, lifeStates] }

theorem steady_updateSched (h : Nat) {f : Sched → Sched} (s : State) (hf : ∀ q, (f q).ctx = q.ctx) :
    Steady s (updateSched h f s) := by
  cases h with
  | zero => exact { Steady.refl s with ctx := hf s.sched }
  | succ k => exact steady_updateOther k s fun o => hf o.sched

theorem steady_record (h : Nat) (t : Txn) (d : Byte) (s : State) : Steady s (record h t d s) :=
  { Steady.refl s with }

theorem steady_of_collaborated {s t : State} (h : Collaborated s t) : Steady s t where
  memory := by rw [h.mem]; exact id
  lines := h.lines
  vector := by simp only [VectorOk, h.intVector, imp_self]
  active := h.active
  ctx := h.ctx
  others := by
    funext k
    have hk := congrArg (Option.map fun kept => kept.2.1) (h.others k)
    rwa [Option.map_map, Option.map_map] at hk
  run := h.run
  ir := h.ir
  position := h.position

theorem steady_of_kept {s t : State} (h : Kept s t) : Steady s t where
  memory := by rw [h.mem]; exact id
  lines := by simp only [LinesOk, h.irqLines, imp_self]
  vector := by simp only [VectorOk, h.intVector, imp_self]
  active := h.active
  ctx := congrArg Sched.ctx h.sched
  others := by funext k; simp only [lifeStates, h.others]
  run := h.run
  ir := h.ir
  position := h.position

theorem steady_resolve_answered {t : Txn} {d : Byte} {s u : State} (h : resolve t s = .answered d u) : Steady s u := by
  obtain ⟨-, -, -, rfl⟩ | ⟨-, -, -, rfl⟩ | ⟨-, hc⟩ := resolve_answered h
  · exact .refl _
  · exact steady_poke _ _ _
  · exact steady_of_collaborated (collaborate_collaborated hc)

theorem steady_busCycle_answered {h : Nat} {t : Txn} {d : Byte} {s u : State} (hb : busCycle h t s = .answered d u) :
    Steady s u := by
  obtain ⟨v, hv, rfl⟩ := busCycle_answered hb
  exact (steady_updateSched h s (sched_account_ctx · _)).trans <| (steady_resolve_answered hv).trans <|
    (steady_record h t d v).trans (steady_updateSched h _ sched_tick_ctx)

theorem steady_busCycle_failed {h : Nat} {t : Txn} {e : Payload} {s u : State} (hb : busCycle h t s = .failed e u) :
    Steady s u := by
  obtain ⟨v, hv, rfl⟩ := busCycle_failed hb
  exact (steady_updateSched h s (sched_account_ctx · _)).trans <|
    (steady_of_collaborated (collaborate_collaborated (resolve_failed hv).2)).trans
      (steady_updateSched h v (sched_unaccount_ctx · _))

theorem steady_transact_done {q : SeqKind} {k : Nat} {sus : Bool} {t : Txn} {d : Byte} {s u : State}
    (h : transact q k sus t s = .done d u) : Steady s u :=
  (steady_polled sus s).trans (steady_busCycle_answered (transact_done h).1)

/-! ### A context starts and stops executing (R35, R342) -/

/-- No context is active, by the arbiter and by every life state. -/
structure NoneActive (s : State) : Prop where
  active : s.active = none
  core : s.sched.ctx ≠ .active
  others : ∀ k, lifeStates s k ≠ some .active

/-- Without an active context the book-keeping is in order, whatever the core's run state. -/
theorem NoneActive.arbiterOk {s : State} (h : NoneActive s) : ArbiterOk s := by
  refine arbiterOk_iff.mpr ⟨?core, ?others, ?named, ?running⟩
  case core => simp only [h.active, h.core, reduceCtorEq]
  case others =>
    rintro k c hc
    simp only [h.active, reduceCtorEq, false_iff]
    rintro rfl
    exact h.others k hc
  case named => simp only [h.active, reduceCtorEq, false_implies, implies_true]
  case running => simp only [h.active, ne_eq, reduceCtorEq, not_false_eq_true, implies_true]

theorem noneActive_of_active_none {s : State} (hi : ArbiterOk s) (ha : s.active = none) : NoneActive s := by
  obtain ⟨hcore, hothers, -, -⟩ := arbiterOk_iff.mp hi
  refine ⟨ha, fun hc => ?_, fun k hc => ?_⟩
  · exact absurd (hcore.mpr hc) (by simp [ha])
  · exact absurd ((hothers k _ hc).mpr rfl) (by simp [ha])

/-- While the core executes no other context is active. -/
theorem others_inactive_of_core {s : State} (hi : ArbiterOk s) (ha : s.active = some 0) (k : Nat) :
    lifeStates s k ≠ some .active := by
  obtain ⟨-, hothers, -, -⟩ := arbiterOk_iff.mp hi
  intro hc
  exact absurd ((hothers k _ hc).mpr rfl) (by simp [ha])

/-- The core stops, whatever its run state then is, at a position that its sequence has. -/
theorem inv_stop {v : State} (status : Status) (run : Run) (p : Position) (hi : Inv v) (ha : v.active = some 0)
    (hp : ∀ q k d, p = .inTxn q k d → HasTxn v.ir q k) : Inv (stop status { v with run := run, position := p }) where
  memory := hi.memory
  lines := hi.lines
  vector := hi.vector
  arbiter := NoneActive.arbiterOk ⟨rfl, by simp, fun k => others_inactive_of_core hi.arbiter ha k⟩
  position := positionOk_iff.mpr hp

theorem lifeStates_deactivate (k : Nat) (status : Status) (s : State) (j : Nat) :
    lifeStates (deactivate (k + 1) status s) j =
      (s.others[j]?).map fun o => if k = j then .suspended else o.sched.ctx :=
  lifeStates_updateOther k (fun o => { o with sched := { o.sched with ctx := .suspended } }) s j

/-- Another context stops. -/
theorem inv_deactivate {k : Nat} {s : State} (status : Status) (hi : Inv s) (ha : s.active = some (k + 1)) :
    Inv (deactivate (k + 1) status s) where
  memory := hi.memory
  lines := hi.lines
  vector := hi.vector
  arbiter := by
    obtain ⟨hcore, hothers, -, -⟩ := arbiterOk_iff.mp hi.arbiter
    refine NoneActive.arbiterOk ⟨rfl, fun hc => ?_, fun j hj => ?_⟩
    · exact absurd (hcore.mpr hc) (by simp [ha])
    · rw [lifeStates_deactivate] at hj
      obtain ⟨o, ho, hc⟩ := Option.map_eq_some_iff.mp hj
      split at hc
      next => cases hc
      next hne =>
        have hactive := (hothers j o.sched.ctx (by simp [lifeStates, ho])).mpr hc
        exact hne (by simpa [ha] using hactive)
  position := hi.position

theorem lifeStates_activate_other (k : Nat) (s : State) (j : Nat) :
    lifeStates (activate (k + 1) s) j = (s.others[j]?).map fun o => if k = j then .active else o.sched.ctx :=
  lifeStates_updateOther k (fun o => { o with sched := { o.sched with ctx := .active } })
    { s with active := some (k + 1) } j

/-- The core becomes the active context. -/
theorem arbiterOk_activate_core {s : State} (hn : NoneActive s) (hrun : s.run = .running) :
    ArbiterOk (activate 0 s) := by
  refine arbiterOk_iff.mpr ⟨by simp, ?others, by simp, fun hne => absurd hrun hne⟩
  intro k c hc
  simp only [activate_core_active, Option.some_inj, (Nat.succ_ne_zero k).symm, false_iff]
  rintro rfl
  exact hn.others k hc

/-- Another context becomes the active one. -/
theorem arbiterOk_activate_other {k : Nat} {s : State} {o : OtherContext} (hn : NoneActive s)
    (ho : s.others[k]? = some o) : ArbiterOk (activate (k + 1) s) := by
  refine arbiterOk_iff.mpr ⟨?core, ?others, ?named, by simp⟩
  case core => simp [hn.core]
  case others =>
    intro j c hc
    rw [lifeStates_activate_other] at hc
    obtain ⟨o', ho', rfl⟩ := Option.map_eq_some_iff.mp hc
    by_cases hj : k = j
    · simp [hj]
    · have hne : o'.sched.ctx ≠ .active := fun h => hn.others j (by simp [lifeStates, ho', h])
      simp [hj, hne]
  case named =>
    intro j hj
    obtain rfl : k = j := by simpa using hj
    simp [lifeStates_activate_other, ho]

/-- A running context that exists becomes the active one (R342). -/
theorem inv_activate {h : Nat} {s : State} {q : Sched} (hi : Inv s) (ha : s.active = none)
    (hq : schedOf h s = some q) (hrun : runOf h s = some .running) : Inv (activate h s) := by
  have hn := noneActive_of_active_none hi.arbiter ha
  cases h with
  | zero =>
    exact ⟨hi.memory, hi.lines, hi.vector, arbiterOk_activate_core hn (Option.some_inj.mp hrun), hi.position⟩
  | succ k =>
    obtain ⟨o, ho, -⟩ := Option.map_eq_some_iff.mp hq
    exact ⟨hi.memory, hi.lines, hi.vector, arbiterOk_activate_other hn ho, hi.position⟩

/-! ### Sequences of the core -/

theorem inv_stepE {s : State} (hi : Inv s) : Inv (stepE s) :=
  ⟨hi.memory, hi.lines, hi.vector, hi.arbiter, positionOk_boundary rfl⟩

theorem inv_finish {s : State} (hi : Inv s) : Inv (finish s) :=
  ⟨hi.memory, hi.lines, hi.vector, hi.arbiter, positionOk_boundary rfl⟩

/-- After the opcode fetch (R99) the core stands at no retained position. -/
theorem inv_latchOpcode {s : State} (d : Byte) (hi : Inv s) : Inv (latchOpcode d s) :=
  ⟨hi.memory, hi.lines, hi.vector, hi.arbiter, positionOk_boundary rfl⟩

theorem steady_entryStart (s : State) : Steady s (entryStart s) := { Steady.refl s with }

theorem steady_resetStart (s : State) : Steady s (resetStart s) := { Steady.refl s with }

/-- An interrupt entry has the transactions E1 to E7 (R321). -/
theorem entryLines_hasTxn {ir : Byte} (k : Nat) (hk : k < 0 + entryLines.length) : HasTxn ir .entry k := by
  simpa [HasTxn, entryLines] using hk

/-- The reset sequence has the transactions R1 to R7 (R362). -/
theorem resetLines_hasTxn {ir : Byte} (k : Nat) (hk : k < 0 + resetLines.length) : HasTxn ir .reset k := by
  simpa [HasTxn, resetLines] using hk

/-- The core executes the opcode `ir`, at step e of a transaction or at a boundary. -/
structure Executing (ir : Byte) (s : State) : Prop where
  inv : Inv s
  active : s.active = some 0
  opcode : s.ir = ir

theorem Executing.of_steady {ir : Byte} {s t : State} (h : Executing ir s) (hs : Steady s t) : Executing ir t :=
  ⟨hs.inv h.inv, hs.active.trans h.active, hs.ir.trans h.opcode⟩

/-- Step e of R61 leaves the core at no retained position. -/
theorem Executing.stepE {ir : Byte} {s : State} (h : Executing ir s) : Executing ir (Machine.stepE s) :=
  ⟨inv_stepE h.inv, h.active, h.opcode⟩

theorem Executing.finish {ir : Byte} {s : State} (h : Executing ir s) : Executing ir (Machine.finish s) :=
  ⟨inv_finish h.inv, h.active, h.opcode⟩

/-- The end of a transaction that is done: step e, then the register updates of its line. -/
theorem Executing.after {ir : Byte} {m : Micro} {s : State} (h : Executing ir s) (hm : Plain m) (d : Byte) :
    Executing ir (m.after d (Machine.stepE s)) :=
  h.stepE.of_steady (steady_of_kept (hm.after d _))

/-- A transaction that stops the core keeps the invariant when its sequence has that transaction. -/
theorem inv_transact_stopped {q : SeqKind} {k : Nat} {sus : Bool} {t : Txn} {s u : State} (hi : Inv s)
    (ha : s.active = some 0) (hk : HasTxn s.ir q k)
    (h : transact q k sus t s = .stopped u) : Inv u := by
  obtain ⟨e, v, hb, rfl⟩ | ⟨d, v, hb, -, rfl⟩ := transact_stopped h
  · have hs := (steady_polled sus s).trans (steady_busCycle_failed hb)
    refine inv_stop _ _ _ (hs.inv hi) (hs.active.trans ha) ?_
    rintro _ _ _ ⟨⟩
    rwa [hs.ir]
  · have hs := (steady_polled sus s).trans (steady_busCycle_answered hb)
    refine inv_stop _ v.run _ (hs.inv hi) (hs.active.trans ha) ?_
    rintro _ _ _ ⟨⟩
    rwa [hs.ir]

/-- A sequence of plain lines keeps the invariant, from its start or from its retained position. -/
theorem inv_runSeq {q : SeqKind} {first : Nat} {lines : List Micro} {s t : State} (hl : AllPlain lines)
    (hk : ∀ k, k < first + lines.length → HasTxn s.ir q k)
    (hi : Inv s) (ha : s.active = some 0) (h : runSeq q first lines s = .next t) : Inv t := by
  have hs : Executing s.ir s := ⟨hi, ha, rfl⟩
  refine runSeq_next (P := Executing s.ir) (Q := Inv) ?done ?stopped ?ended (fun _ => hs) ?retained h
  case done => exact fun m hm _ u v d hu hv => (hu.of_steady (steady_transact_done hv)).after (hl m hm) d
  case stopped =>
    intro m _ j u v _ hj hu hv
    exact inv_transact_stopped hu.inv hu.active (hu.opcode ▸ hk j hj) hv
  case ended => exact fun u hu => hu.finish.inv
  case retained => exact fun m hm _ d _ => hs.after (hl m hm) d

/-- The jam after its fetch (R293). -/
theorem inv_jam {s t : State} (hi : Inv s) (ha : s.active = some 0) (h : jam s = .next t) : Inv t := by
  cases h
  have hf := (Executing.finish ⟨hi, ha, rfl⟩ : Executing s.ir (finish s))
  exact inv_stop .jammed .jammed .boundary hf.inv hf.active nofun

/-- The instruction of the latched opcode keeps the invariant: its sequence has no more lines than the map gives it
transactions after the fetch (R97). -/
theorem inv_decodeAndExec {s t : State} (hi : Inv s) (ha : s.active = some 0) (h : decodeAndExec s = .next t) :
    Inv t := by
  rw [decodeAndExec] at h
  obtain ⟨-, hj⟩ | ⟨lines, hl, hlen, he⟩ := exec_shape (decodeOpcode s.ir)
  · exact inv_jam hi ha ((hj s).symm.trans h)
  · refine inv_runSeq hl (fun k hk => hasTxn_instr ?_) hi ha ((he s).symm.trans h)
    omega

/-- At an instruction boundary every action of R318 keeps the invariant. -/
theorem inv_coreStep_boundary {s t : State} (hi : Inv s) (ha : s.active = some 0) (hp : s.position = .boundary)
    (h : coreStep s = .next t) : Inv t := by
  simp only [coreStep, hp] at h
  split at h
  case h_1 status _ =>
    cases h
    exact inv_stop status s.run s.position hi ha (positionOk_iff.mp hi.position)
  case h_2 =>
    exact inv_runSeq allPlain_resetLines resetLines_hasTxn (steady_resetStart s |>.inv hi) ha h
  case h_3 =>
    exact inv_runSeq allPlain_entryLines entryLines_hasTxn (steady_entryStart s |>.inv hi) ha h
  case h_4 =>
    split at h
    · rename_i d u hf
      have hs := steady_transact_done hf
      exact inv_decodeAndExec (inv_latchOpcode d (hs.inv hi)) (hs.active.trans ha) h
    · rename_i u hf
      cases h
      exact inv_transact_stopped hi ha hasTxn_fetch hf
    · cases h

/-- Every action of the core keeps the invariant. -/
theorem inv_coreStep {s t : State} (hi : Inv s) (ha : s.active = some 0) (h : coreStep s = .next t) : Inv t := by
  cases hp : s.position with
  | boundary => exact inv_coreStep_boundary hi ha hp h
  | inTxn q k d =>
    simp only [coreStep, hp] at h
    cases q with
    | reset => exact inv_runSeq allPlain_resetLines resetLines_hasTxn hi ha h
    | entry => exact inv_runSeq allPlain_entryLines entryLines_hasTxn hi ha h
    | instr =>
      cases k with
      | zero => exact inv_decodeAndExec (inv_latchOpcode d hi) ha h
      | succ k => exact inv_decodeAndExec hi ha h

/-! ### Slices of the other contexts -/

theorem inv_yieldOther {k : Nat} {s : State} (hi : Inv s) (ha : s.active = some (k + 1)) : Inv (yieldOther k s) := by
  obtain h | h := yieldOther_cases k s <;> rw [h]
  · exact hi
  · exact inv_deactivate _ hi ha

/-- Every action of another context keeps the invariant: its updates of that context keep its life state, until it stops. -/
theorem inv_otherStep {k : Nat} {s t : State} (hi : Inv s) (ha : s.active = some (k + 1))
    (h : otherStep k s = .next t) : Inv t := by
  have begun := steady_updateOther k s fun o => congrArg Sched.ctx (beginOther_sched o)
  obtain ⟨o, -, ⟨status, rfl⟩ | rfl | ⟨x, ⟨e, u, hb, rfl⟩ | ⟨d, u, next, hb, rfl⟩⟩⟩ := otherStep_next h
  · exact inv_deactivate _ hi ha
  · have hs := steady_updateOther k s fun o => congrArg Sched.ctx (jamOther_sched o)
    exact inv_deactivate _ (hs.inv hi) (hs.active.trans ha)
  · have hs := (begun.trans (steady_busCycle_failed hb)).trans
      (steady_updateOther k (f := fun o => { o with run := .faulted e }) u fun _ => rfl)
    exact inv_deactivate _ (hs.inv hi) (hs.active.trans ha)
  · have hs := (begun.trans (steady_busCycle_answered hb)).trans
      (steady_updateOther k u fun o => congrArg Sched.ctx (advanceOther_sched o next))
    exact inv_yieldOther (hs.inv hi) (hs.active.trans ha)

/-! ### The driver's calls -/

/-- `Resume`, when it is accepted, keeps the invariant (R342). -/
theorem inv_resume {h : Nat} {s t : State} (hi : Inv s) (ha : s.active = none) (hr : resume h s = .next t) : Inv t := by
  obtain ⟨q, run, hq, hrun, ⟨status, -, rfl⟩ | ⟨hd, rfl⟩⟩ := resume_next hr
  · exact ⟨hi.memory, hi.lines, hi.vector, hi.arbiter, hi.position⟩
  · obtain ⟨-, rfl, -⟩ := resumeDecision_start hd
    exact inv_activate hi ha hq hrun

/-- A reset or an Abort keeps the invariant when it keeps it of the core and leaves another context inactive. -/
theorem inv_lifeCall {h : Nat} {ok : CtxState → Option Misuse} {f : State → State}
    {g : Nat → OtherContext → OtherContext} {s t : State} (hi : Inv s) (ha : s.active = none)
    (hf : NoneActive s → Inv (f s)) (hg : ∀ k o, (g k o).sched.ctx ≠ .active)
    (hl : lifeCall h ok f g s = .next t) : Inv t := by
  have hn := noneActive_of_active_none hi.arbiter ha
  obtain ⟨q, -, -, ⟨-, rfl⟩ | ⟨k, -, rfl⟩⟩ := lifeCall_next hl
  · exact hf hn
  · refine ⟨hi.memory, hi.lines, hi.vector, NoneActive.arbiterOk ⟨ha, hn.core, fun j hj => ?_⟩, hi.position⟩
    rw [lifeStates_updateOther] at hj
    obtain ⟨o, ho, hc⟩ := Option.map_eq_some_iff.mp hj
    split at hc
    · exact hg k o hc
    · exact hn.others j (by simp [lifeStates, ho, hc])

theorem linesOk_of_irqLines_eq_zero {s : State} (h : s.irqLines = 0) : LinesOk s := by
  simp only [LinesOk, h, Nat.two_pow_pos]

theorem inv_hardResetCore {s : State} (hi : Inv s) (hn : NoneActive s) : Inv (hardResetCore s) :=
  ⟨hi.memory, linesOk_of_irqLines_eq_zero rfl, .inr rfl,
    NoneActive.arbiterOk ⟨hn.active, by simp [State.reset], hn.others⟩, positionOk_boundary rfl⟩

theorem inv_softResetCore {s : State} (hi : Inv s) (hn : NoneActive s) : Inv (softResetCore s) :=
  ⟨hi.memory, hi.lines, hi.vector, NoneActive.arbiterOk ⟨hn.active, by simp, hn.others⟩, positionOk_boundary rfl⟩

theorem inv_abortCore {s : State} (hi : Inv s) (hn : NoneActive s) : Inv (abortCore s) :=
  ⟨hi.memory, hi.lines, hi.vector, NoneActive.arbiterOk ⟨hn.active, by simp, hn.others⟩, positionOk_boundary rfl⟩

/-- Every call of the driver that is accepted keeps the invariant. -/
theorem inv_driverCall {c : Call} {s t : State} (hi : Inv s) (h : driverCall c s = .next t) : Inv t := by
  obtain hd | ⟨ha, ⟨k, -, hr⟩ | ⟨k, -, hl⟩ | ⟨k, -, hl⟩ | ⟨k, -, hl⟩⟩ := driverCall_next h
  · exact (steady_of_collaborated (callDuring_collaborated hd)).inv hi
  · exact inv_resume hi ha hr
  · exact inv_lifeCall hi ha (inv_hardResetCore hi) (by simp) hl
  · exact inv_lifeCall hi ha (inv_softResetCore hi) (by simp) hl
  · exact inv_lifeCall hi ha (inv_abortCore hi) (by simp) hl

theorem inv_driverStep {s t : State} (hi : Inv s) (h : driverStep s = .next t) : Inv t := by
  obtain ⟨-, rfl⟩ | ⟨c, rest, -, hc⟩ := driverStep_next h
  · exact hi
  · have hi' : Inv { s with driver := rest } := ⟨hi.memory, hi.lines, hi.vector, hi.arbiter, hi.position⟩
    exact inv_driverCall hi' hc

/-! ### The reset state and every step -/

/-- Settles O54: after reset nothing is listed in memory, no line is set and no context is active. -/
theorem resetStateMeetsInvariant : Obligations.ResetStateMeetsInvariant :=
  ⟨wf_reset, linesOk_of_irqLines_eq_zero rfl, .inr rfl,
    NoneActive.arbiterOk ⟨rfl, by simp [State.reset], by simp [lifeStates, State.reset]⟩, positionOk_boundary rfl⟩

/-- Settles O55: the context that the arbiter names acts, or the driver when it names none (R340). -/
theorem everyStepKeepsTheInvariant : Obligations.EveryStepKeepsTheInvariant := by
  unfold Obligations.EveryStepKeepsTheInvariant
  intro s t hi h
  unfold step at h
  split at h
  case h_1 ha => exact inv_coreStep hi ha h
  case h_2 k ha => exact inv_otherStep hi ha h
  case h_3 ha => exact inv_driverStep hi h

end Sys2Proof.Proofs
end

section
/-! SUPPORT. The packed status byte bit by bit (R27 to R29), and the views of an aliased word as extracts and concatenations (R22, R23). -/

namespace Sys2Proof.Proofs

open Sys2Proof.Machine Sys2Proof.Laws

/-! ### The packed status byte -/

/-- A flag as one bit of a byte is that flag there and 0 elsewhere. -/
theorem getElem_bit (f : Bool) (k j : Nat) (hj : j < 8) : (bit f k)[j] = (f && decide (j = k)) := by
  cases f with
  | false => simp [bit]
  | true =>
    rw [Bool.eq_iff_iff]
    simp only [bit, if_true, BitVec.getElem_shiftLeft, BitVec.getElem_one, Bool.true_and, Bool.and_eq_true,
      Bool.not_eq_true', decide_eq_true_eq, decide_eq_false_iff_not]
    omega

/-- R27, from bit 0 to bit 7. -/
theorem live_bits (p : Flags) :
    (List.range 8).map p.live.getLsbD = [p.c, p.z, p.i, p.d, false, true, p.v, p.n] := by
  simp [List.range, List.range.loop, Flags.live, getElem_bit]

/-- Bits 5 and 4 do not reach the flags (R29), so setting bit 4 changes nothing that is loaded. -/
theorem load_push (p : Flags) : Flags.load p.push = Flags.load p.live := by
  simp [Flags.load, Flags.push]

/-- Loading is the inverse of packing. -/
theorem load_live (p : Flags) : Flags.load p.live = p := by
  simp [Flags.load, Flags.live, getElem_bit]

/-- Settles O3. -/
theorem packedStatusViewsAndLoad : Obligations.PackedStatusViewsAndLoad := by
  unfold Obligations.PackedStatusViewsAndLoad
  exact ⟨fun p => ⟨live_bits p, rfl, (load_push p).trans (load_live p), load_live p⟩, fun _ => rfl⟩

/-! ### The views of an aliased word -/

/-- The low view reads bits 7:0. -/
theorem lo8_eq_extract (w : Word) : lo8 w = w.extractLsb' 0 8 := by
  apply BitVec.eq_of_getLsbD_eq
  intro i hi
  simp [lo8, hi]

/-- The high view reads bits 15:8. -/
theorem hi8_eq_extract (w : Word) : hi8 w = w.extractLsb' 8 8 := by
  apply BitVec.eq_of_getLsbD_eq
  intro i hi
  simp [hi8, hi]

/-- R22: the word is the high view above the low view. -/
theorem hi8_append_lo8 (w : Word) : hi8 w ++ lo8 w = w := by
  rw [← word_eq_append, word]
  apply BitVec.eq_of_getLsbD_eq
  intro i hi
  have hi : i < 16 := hi
  by_cases h : i < 8
  · simp [lo8, h, hi]
  · simp [lo8, hi8, h, hi, show i - 8 < 8 by omega, show 8 + (i - 8) = i by omega]

/-- Settles O4: what each view reads, and a write through a view as the word it makes. -/
theorem aliasedWordHasThreeViews : Obligations.AliasedWordHasThreeViews := by
  unfold Obligations.AliasedWordHasThreeViews
  exact fun w v =>
    ⟨lo8_eq_extract w, hi8_eq_extract w, (hi8_append_lo8 w).symm, lo8_word _ _, hi8_word _ _, lo8_word _ _,
      hi8_word _ _, word_eq_append _ _, word_eq_append _ _⟩

end Sys2Proof.Proofs
end
section
/-! SUPPORT. HardReset of a context that is not active (R361, R365). -/

namespace Sys2Proof.Proofs

open Sys2Proof.Machine Sys2Proof.Laws

/-- HardReset is admitted unless the context is active (R364). -/
theorem hardResetOk_of_not_active {c : CtxState} (hc : c ≠ .active) : hardResetOk c = none := by
  cases c with
  | active => exact absurd rfl hc
  | idle | suspended | aborted => rfl

theorem driverCall_hardReset {s : State} (h : Nat) (ha : s.active = none) :
    driverCall (.hardReset h) s = lifeCall h hardResetOk hardResetCore hardResetOther s :=
  whenNoneActive_of_none _ ha

theorem driverCall_hardReset_core {s : State} (ha : s.active = none) (hc : s.sched.ctx ≠ .active) :
    driverCall (.hardReset 0) s = .next (hardResetCore s) := by
  simp only [driverCall_hardReset 0 ha, lifeCall, schedOf_core, hardResetOk_of_not_active hc]

theorem driverCall_hardReset_other {s : State} {k : Nat} {o : OtherContext} (ha : s.active = none)
    (ho : s.others[k]? = some o) (hc : o.sched.ctx ≠ .active) :
    driverCall (.hardReset (k + 1)) s = .next (updateOther k (hardResetOther k) s) := by
  simp only [driverCall_hardReset _ ha, lifeCall, schedOf_other ho, hardResetOk_of_not_active hc]

/-- Settles O45: the call of the core is `hardResetCore`, whose fields are those of the reset state; that of another context
sets it to `hardResetOther`. -/
theorem hardResetSetsPowerOnValues : Obligations.HardResetSetsPowerOnValues := by
  unfold Obligations.HardResetSetsPowerOnValues
  refine ⟨fun s ha hc => ⟨hardResetCore s, driverCall_hardReset_core ha hc, ?values, rfl, rfl, rfl, rfl, ha⟩, ?other⟩
  case values =>
    intro u hu
    obtain rfl | rfl : u = hardResetCore s ∨ u = State.reset := by simpa using hu
    all_goals exact ⟨rfl, rfl, rfl, rfl, rfl, rfl, rfl, rfl, rfl, rfl, rfl, rfl, rfl, rfl, rfl, rfl, rfl, rfl, rfl, rfl⟩
  case other =>
    intro s k o ha ho hc
    rw [driverCall_hardReset_other ha ho hc, updateOther_eq_set _ ho]
    rfl

end Sys2Proof.Proofs
end

section
/-! SUPPORT. The slices of the other contexts (R347): what they leave alone of the core, and a transaction that plain memory answers, written out (R61). -/

namespace Sys2Proof.Proofs

open Sys2Proof.Machine Sys2Proof.Safety Sys2Proof.Laws

/-! ### What another context leaves alone of the core -/

/-- The core as it is between its own slices: its registers, sampler, execution state, clock and life state. -/
structure CoreView where
  regs : RegFile
  pc : Word
  ea : Word
  ir : Byte
  opr : Byte
  nmiPrev : Bool
  nmiPending : Bool
  intPending : Bool
  intVector : Word
  suspend : Bool
  run : Run
  resetReq : ResetReq
  position : Position
  latch : Latches
  clock : Nat
  ctx : CtxState

/-- The core of a state. -/
def coreView (s : State) : CoreView :=
  ⟨regs s, s.pc, s.ea, s.ir, s.opr, s.nmiPrev, s.nmiPending, s.intPending, s.intVector, s.suspend, s.run, s.resetReq,
    s.position, s.latch, s.sched.clock, s.sched.ctx⟩

@[simp] theorem coreView_updateOther (k : Nat) (f : OtherContext → OtherContext) (s : State) :
    coreView (updateOther k f s) = coreView s := rfl

@[simp] theorem coreView_updateSched_other (k : Nat) (f : Sched → Sched) (s : State) :
    coreView (updateSched (k + 1) f s) = coreView s := rfl

@[simp] theorem coreView_deactivate_other (k : Nat) (status : Status) (s : State) :
    coreView (deactivate (k + 1) status s) = coreView s := rfl

@[simp] theorem coreView_record (h : Nat) (t : Txn) (d : Byte) (s : State) : coreView (record h t d s) = coreView s := rfl

@[simp] theorem coreView_poke (s : State) (a : Word) (v : Byte) : coreView (poke s a v) = coreView s := rfl

/-- R63: collaborators' calls reach the core's budget and stalls only, which are no part of the view. -/
theorem coreView_of_collaborated {s t : State} (h : Collaborated s t) : coreView t = coreView s := by
  simp only [coreView, regs, h.a, h.x, h.y, h.s, h.p, h.pc, h.ea, h.ir, h.opr, h.nmiPrev, h.nmiPending, h.intPending,
    h.intVector, h.suspend, h.run, h.resetReq, h.position, h.latch, h.clock, h.ctx]

theorem coreView_resolve_answered {t : Txn} {d : Byte} {s u : State} (h : resolve t s = .answered d u) :
    coreView u = coreView s := by
  obtain ⟨-, -, -, rfl⟩ | ⟨-, -, -, rfl⟩ | ⟨-, hc⟩ := resolve_answered h
  · rfl
  · rfl
  · exact coreView_of_collaborated (collaborate_collaborated hc)

theorem coreView_busCycle_answered {k : Nat} {t : Txn} {d : Byte} {s u : State}
    (h : busCycle (k + 1) t s = .answered d u) : coreView u = coreView s := by
  obtain ⟨v, hv, rfl⟩ := busCycle_answered h
  simpa using coreView_resolve_answered hv

theorem coreView_busCycle_failed {k : Nat} {t : Txn} {e : Payload} {s u : State}
    (h : busCycle (k + 1) t s = .failed e u) : coreView u = coreView s := by
  obtain ⟨v, hv, rfl⟩ := busCycle_failed h
  simpa using coreView_of_collaborated (collaborate_collaborated (resolve_failed hv).2)

@[simp] theorem coreView_yieldOther (k : Nat) (s : State) : coreView (yieldOther k s) = coreView s := by
  obtain h | h := yieldOther_cases k s <;> rw [h]
  exact coreView_deactivate_other k .exhausted s

/-- R347: every action of another context leaves the core as it is. -/
theorem coreView_otherStep {k : Nat} {s t : State} (h : otherStep k s = .next t) : coreView t = coreView s := by
  obtain ⟨o, -, ⟨status, rfl⟩ | rfl | ⟨x, ⟨e, u, hb, rfl⟩ | ⟨d, u, next, hb, rfl⟩⟩⟩ := otherStep_next h
  · simp
  · simp
  · simpa using coreView_busCycle_failed hb
  · simpa using coreView_busCycle_answered hb

/-- An action of a context that exists is refused only for a collaborator's call (R334). -/
theorem otherStep_refused {k : Nat} {s : State} {r : Refusal} (h : otherStep k s = .refused r) :
    ∃ m, r = .outOfContract m := by
  unfold otherStep at h
  split at h
  · cases h
    exact ⟨_, rfl⟩
  · split at h
    · cases h
    · cases h
    · split at h
      · cases h
      · unfold otherTransaction at h
        split at h
        · cases h
          exact ⟨_, rfl⟩
        · cases h
        · cases h

/-! ### Another context, written out -/

/-- Changing the scheduler state of another context that exists is setting it. -/
theorem updateSched_other_eq_set {k : Nat} {o : OtherContext} {s : State} (f : Sched → Sched)
    (ho : s.others[k]? = some o) :
    updateSched (k + 1) f s = { s with others := s.others.set k { o with sched := f o.sched } } :=
  updateOther_eq_set _ ho

/-- Another context that was set is there. -/
theorem getElem?_set_other {k : Nat} {o : OtherContext} {l : List OtherContext} (o' : OtherContext) (ho : l[k]? = some o) :
    (l.set k o')[k]? = some o' := by
  obtain ⟨hk, -⟩ := List.getElem?_eq_some_iff.mp ho
  exact List.getElem?_set_self hk

/-- Another context stops: its life state, the arbiter and the report change. -/
theorem deactivate_other_eq {k : Nat} {o : OtherContext} {s : State} (status : Status) (ho : s.others[k]? = some o) :
    deactivate (k + 1) status s =
      { s with
        others := s.others.set k { o with sched := { o.sched with ctx := .suspended } }
        active := none
        report := some ⟨k + 1, status, o.sched.budget⟩ } := by
  simp [deactivate, updateSched_other_eq_set _ ho, schedOf, getElem?_set_other _ ho]

theorem yieldOther_eq {k : Nat} {o : OtherContext} {s : State} (ho : s.others[k]? = some o) :
    yieldOther k s = if o.sched.budget ≤ 0 then deactivate (k + 1) .exhausted s else s := by
  simp only [yieldOther, schedOf_other ho]

/-- The byte of a transaction that plain memory answers. -/
def plainData (t : Txn) (s : State) : Byte := if t.dir = .read then peek s t.addr else t.data

/-- The memory after a transaction that plain memory answers. -/
def plainMem (t : Txn) (s : State) : List Host.Cell :=
  if t.dir = .write then Memory.write s.mem t.addr.toNat t.data else s.mem

theorem resolve_plain {t : Txn} {s : State} (hp : toDevice t s = false) :
    resolve t s = .answered (plainData t s) { s with mem := plainMem t s } := by
  cases hd : t.dir with
  | read => simp [resolve_read hp hd, plainData, plainMem, hd]
  | write => simp [resolve_write hp hd, plainData, plainMem, hd, poke]

/-- The event of a transaction that plain memory answers: its clock is the one before the tick (R65). -/
def plainEvent (k : Nat) (o : OtherContext) (t : Txn) (s : State) : Event :=
  ⟨k + 1, o.sched.clock + o.sched.due t.dir, t.dir, t.addr, plainData t s⟩

/-- Steps a to c of R61 for another context, answered by plain memory. -/
theorem busCycle_other_plain {k : Nat} {o : OtherContext} {t : Txn} {s : State} (ho : s.others[k]? = some o)
    (hp : toDevice t s = false) :
    busCycle (k + 1) t s = .answered (plainData t s)
      { s with
        mem := plainMem t s
        history := plainEvent k o t s :: s.history
        others := s.others.set k { o with sched := (o.sched.account (o.sched.due t.dir)).tick } } := by
  have hset := getElem?_set_other { o with sched := o.sched.account (o.sched.due t.dir) } ho
  have hp' : toDevice t (updateSched (k + 1) (Sched.account (o.sched.due t.dir)) s) = false := hp
  simp only [busCycle, schedOf_other ho, Option.map_some, Option.getD_some, resolve_plain hp']
  simp only [updateSched_other_eq_set _ ho, record]
  rw [updateSched_other_eq_set _ hset]
  simp [schedOf, hset, plainEvent, plainData, plainMem, peek]

/-- The other context after a transaction that plain memory answers, before step d (R61, R347). -/
def plainOther (k : Nat) (o : OtherContext) (t : Txn) (s : State) : OtherContext :=
  advanceOther (Config.otherCoreAfter k (viewOf o s) (plainEvent k o t s :: s.history) (plainData t s))
    { beginOther o with sched := (o.sched.account (o.sched.due t.dir)).tick }

/-- A transaction of another context that plain memory answers, with its step d. -/
theorem otherTransaction_plain {k : Nat} {o : OtherContext} {t : Txn} {s : State} (ho : s.others[k]? = some o)
    (hp : toDevice t s = false) :
    otherTransaction k (viewOf o s) t s = .next (yieldOther k
      { s with
        mem := plainMem t s
        history := plainEvent k o t s :: s.history
        others := s.others.set k (plainOther k o t s) }) := by
  have hbegun := getElem?_set_other (beginOther o) ho
  have hp' : toDevice t { s with others := s.others.set k (beginOther o) } = false := hp
  rw [otherTransaction, updateOther_eq_set _ ho, busCycle_other_plain hbegun hp']
  simp only [beginOther_sched, List.set_set]
  rw [updateOther_eq_set _ (getElem?_set_other _ ho)]
  simp only [List.set_set, plainOther, plainEvent, beginOther_sched]
  rfl

section
variable {k : Nat} {o : OtherContext} {s : State} (ho : s.others[k]? = some o) (hrun : o.run = .running)
include ho hrun

/-- A running context for which OTHER_CORE_STEP ends its forward progress (R293, R347). -/
theorem otherStep_of_jam (hx : Config.otherCoreStep k (viewOf o s) s.history = .jam) :
    otherStep k s = .next (deactivate (k + 1) .jammed (updateOther k jamOther s)) := by
  simp only [otherStep, ho, hrun, hx]

/-- A running context to which OTHER_CORE_STEP gives a transaction (R347). -/
theorem otherStep_of_txn {t : Txn} (hx : Config.otherCoreStep k (viewOf o s) s.history = .txn t) :
    otherStep k s = otherTransaction k (viewOf o s) t s := by
  simp only [otherStep, ho, hrun, hx]

end

/-- R293, R347: a context that has ended its forward progress is jammed, suspended and reported. -/
theorem deactivate_jamOther {k : Nat} {o : OtherContext} {s : State} (ho : s.others[k]? = some o) :
    deactivate (k + 1) .jammed (updateOther k jamOther s) =
      { s with
        others := s.others.set k
          { o with run := .jammed, position := 0, sched := { o.sched with ctx := .suspended } }
        active := none
        report := some ⟨k + 1, .jammed, o.sched.budget⟩ } := by
  rw [updateOther_eq_set _ ho, deactivate_other_eq _ (getElem?_set_other _ ho), List.set_set]
  rfl

/-- The fields of a running context after such a transaction. -/
theorem plainOther_eq {o : OtherContext} (k : Nat) (t : Txn) (s : State) (hrun : o.run = .running) :
    plainOther k o t s =
      let due := o.sched.due t.dir
      let after := Config.otherCoreAfter k (viewOf o s) (plainEvent k o t s :: s.history) (plainData t s)
      { sched := ⟨o.sched.budget - due - 1, o.sched.clock + due + 1, o.sched.stallPending - due, o.sched.ctx⟩
        run := .running
        resetReq := if o.position = 0 then .none else o.resetReq
        position := if after.boundary then 0 else o.position + 1
        registers := after.registers } := by
  simp only [plainOther, advanceOther, beginOther_run, beginOther_resetReq, beginOther_position, hrun]
  rfl

/-- Settles O60: the core's part is `coreView`; a running context jams or performs its transaction, after which the budget
that is left decides whether it yields. -/
theorem otherContextsLeaveTheCoreAlone : Obligations.OtherContextsLeaveTheCoreAlone := by
  unfold Obligations.OtherContextsLeaveTheCoreAlone
  intro s k o ha ho
  have hstep : step s = otherStep k s := by simp only [step, ha]
  rw [hstep]
  refine ⟨?core, fun hrun => ?running⟩
  case core =>
    cases h : otherStep k s with
    | next t => simpa only [coreView, CoreView.mk.injEq] using coreView_otherStep h
    | fault f => cases f
    | refused r => exact otherStep_refused h
  case running =>
    split
    next hx => rw [otherStep_of_jam ho hrun hx, deactivate_jamOther ho]
    next x hx =>
      intro hp
      have hset := getElem?_set_other (plainOther k o x s) ho
      rw [otherStep_of_txn ho hrun hx, otherTransaction_plain ho hp, yieldOther_eq hset]
      refine ⟨_, rfl, ?_⟩
      by_cases hgo : (o.sched.due x.dir : Int) + 1 < o.sched.budget
      · rw [if_neg (by rw [plainOther_eq k x s hrun]; dsimp only; omega)]
        simp only [hgo, if_true]
        exact ⟨rfl, rfl, ha, congrArg _ (plainOther_eq k x s hrun)⟩
      · rw [if_pos (by rw [plainOther_eq k x s hrun]; dsimp only; omega), deactivate_other_eq _ hset]
        simp only [hgo, if_false, List.set_set]
        refine ⟨rfl, rfl, trivial, ?_⟩
        rw [plainOther_eq k x s hrun]
        rfl

end Sys2Proof.Proofs
end

section
/-! SUPPORT. A handover, a change of what the driver and the arbiter hold of the core (cycles granted, life state, holder, last report): transactions and the lines of every sequence do not see it, but for the step at which the budget ends. -/

namespace Sys2Proof.Proofs

open Sys2Proof.Machine Sys2Proof.Safety Sys2Proof.Laws

/-! ### Handovers -/

/-- A change of what the driver and the arbiter hold of the core, and of nothing else: cycles granted, its life state, the
arbiter's holder and the last report. -/
structure Handover where
  cycles : Int
  ctx : CtxState → CtxState
  active : Option Nat → Option Nat
  report : Option Report → Option Report

namespace Handover

/-- What a handover does to the scheduler state of the core. -/
def onSched (h : Handover) (q : Sched) : Sched := { q with budget := q.budget + h.cycles, ctx := h.ctx q.ctx }

/-- The state after a handover. -/
def apply (h : Handover) (s : State) : State :=
  { s with sched := h.onSched s.sched, active := h.active s.active, report := h.report s.report }

/-- `GrantCycles(0, n)` and the start of `Resume(0)` (R341, R342). -/
def resume (n : Int) : Handover := ⟨n, fun _ => .active, fun _ => some 0, id⟩

/-- The driver's record of the last report is dropped. -/
def forget : Handover := ⟨0, id, id, fun _ => none⟩

end Handover

theorem resume_apply (n : Int) (s : State) : (Handover.resume n).apply s = resumedWith n s := rfl

/-- On an active core only the grant changes anything. -/
theorem resume_apply_of_active (n : Int) {s : State} (ha : s.active = some 0) (hc : s.sched.ctx = .active) :
    (Handover.resume n).apply s = updateSched 0 (Sched.grant n) s := by
  simp only [Handover.apply, Handover.onSched, Handover.resume, id, updateSched, Sched.grant, ← ha, ← hc]

theorem forget_apply (s : State) : Handover.forget.apply s = { s with report := none } := by
  simp only [Handover.apply, Handover.onSched, Handover.forget, id, Int.add_zero]

/-! ### A transaction after a handover -/

section
variable (h : Handover)

@[simp] theorem apply_history (s : State) : (h.apply s).history = s.history := rfl

@[simp] theorem apply_sched (s : State) : (h.apply s).sched = h.onSched s.sched := rfl

@[simp] theorem onSched_budget (q : Sched) : (h.onSched q).budget = q.budget + h.cycles := rfl

@[simp] theorem toDevice_apply (t : Txn) (s : State) : toDevice t (h.apply s) = toDevice t s := rfl

theorem onSched_grant (n : Int) (q : Sched) : Sched.grant n (h.onSched q) = h.onSched (Sched.grant n q) := by
  simp only [Sched.grant, Handover.onSched, add_right_comm]

theorem onSched_account (n : Nat) (q : Sched) : Sched.account n (h.onSched q) = h.onSched (Sched.account n q) := by
  simp only [Sched.account, Handover.onSched, add_sub_right_comm]

theorem onSched_unaccount (n : Nat) (q : Sched) :
    Sched.unaccount n (h.onSched q) = h.onSched (Sched.unaccount n q) := by
  simp only [Sched.unaccount, Handover.onSched, add_right_comm]

theorem onSched_tick (q : Sched) : Sched.tick (h.onSched q) = h.onSched (Sched.tick q) := by
  simp only [Sched.tick, Handover.onSched, add_sub_right_comm]

theorem onSched_due (d : Dir) (q : Sched) : (h.onSched q).due d = q.due d := by cases d <;> rfl

variable {h} in
/-- A change of the scheduler state of a context that commutes with the handover's. -/
theorem updateSched_apply {f : Sched → Sched} (k : Nat) (s : State) (hf : ∀ q, f (h.onSched q) = h.onSched (f q)) :
    updateSched k f (h.apply s) = h.apply (updateSched k f s) := by
  cases k with
  | zero => simp only [updateSched, Handover.apply, hf]
  | succ k => rfl

theorem isSome_schedOf_apply (k : Nat) (s : State) : (schedOf k (h.apply s)).isSome = (schedOf k s).isSome := by
  cases k <;> rfl

theorem callDuring_apply (c : Call) (s : State) : callDuring c (h.apply s) = (callDuring c s).map h.apply := by
  cases c with
  | assertLine source asserted =>
    cases source with
    | nmi => rfl
    | level i =>
      simp only [callDuring, assertLine]
      split <;> rfl
  | stall k n =>
    simp only [callDuring, isSome_schedOf_apply, updateSched_apply (f := Sched.stall n) k s fun _ => rfl]
    split <;> rfl
  | grantCycles k n =>
    simp only [callDuring, isSome_schedOf_apply, updateSched_apply k s (onSched_grant h n)]
    split
    · rfl
    · split <;> rfl
  | resume k | hardReset k | softReset k | abort k => rfl

theorem collaborate_apply : ∀ (calls : List CollabCall) (s : State),
    collaborate calls (h.apply s) = (collaborate calls s).map h.apply
  | [], _ => rfl
  | .suspendCaller :: _, _ => rfl
  | .call c :: rest, s => by
    simp only [collaborate, callDuring_apply]
    cases callDuring c s with
    | error m => rfl
    | ok u => exact collaborate_apply rest u

/-- The outcome of step b of R61 with `f` done to its state. -/
def mapResolved (f : State → State) : Resolved → Resolved
  | .answered d s => .answered d (f s)
  | .failed e s => .failed e (f s)
  | .refused m => .refused m

theorem resolve_apply (t : Txn) (s : State) : resolve t (h.apply s) = mapResolved h.apply (resolve t s) := by
  cases hd : toDevice t s with
  | false =>
    rw [resolve_plain hd, resolve_plain (s := h.apply s) hd]
    rfl
  | true =>
    simp only [resolve, toDevice_apply, apply_history, hd, if_true, collaborate_apply]
    cases collaborate (Config.resolver t s.history).calls s with
    | error m => rfl
    | ok u =>
      cases (Config.resolver t s.history).answer with
      | thrown code => simp only [Except.map, mapResolved]
      | value v =>
        cases t.dir with
        | write => simp only [Except.map, mapResolved]
        | read =>
          simp only [Except.map]
          split <;> rfl

theorem busCycle_apply (t : Txn) (s : State) : busCycle 0 t (h.apply s) = mapResolved h.apply (busCycle 0 t s) := by
  simp only [busCycle, schedOf_core, Option.map_some, Option.getD_some, apply_sched, onSched_due,
    updateSched_apply 0 s (onSched_account h _), resolve_apply]
  cases resolve t (updateSched 0 (Sched.account (Sched.due t.dir s.sched)) s) with
  | refused m => rfl
  | failed e u => simp only [mapResolved, updateSched_apply 0 u (onSched_unaccount h _)]
  | answered d u =>
    simp only [mapResolved]
    exact congrArg _ (updateSched_apply 0 (record 0 t d u) (onSched_tick h))

theorem polled_apply (sus : Bool) (s : State) : polled sus (h.apply s) = h.apply (polled sus s) := by
  simp only [polled]
  show (if s.suspend || sus then _ else _) = _
  split <;> rfl

variable {h} {q : SeqKind} {k : Nat} {sus : Bool} {t : Txn} {s : State}

/-- A transaction that answers is done after the handover when budget is then left. -/
theorem transact_apply_of_answered {d : Byte} {u : State} (hb : busCycle 0 t (polled sus s) = .answered d u)
    (hleft : 0 < u.sched.budget + h.cycles) : transact q k sus t (h.apply s) = .done d (h.apply u) := by
  simp only [transact_eq, polled_apply, busCycle_apply, hb, mapResolved, apply_sched, onSched_budget]
  exact if_neg (by omega)

/-- What dropping the last report leaves of a transaction: a stop writes the report again. -/
def forgetDone : TxnOut → TxnOut
  | .done d s => .done d (Handover.forget.apply s)
  | .stopped s => .stopped s
  | .refused m => .refused m

theorem transact_forget (q : SeqKind) (k : Nat) (sus : Bool) (t : Txn) (s : State) :
    transact q k sus t (Handover.forget.apply s) = forgetDone (transact q k sus t s) := by
  simp only [transact_eq, polled_apply, busCycle_apply]
  cases busCycle 0 t (polled sus s) with
  | refused m => rfl
  | failed e u => simp only [mapResolved, forget_apply, forgetDone, stop]
  | answered d u =>
    simp only [mapResolved, forget_apply]
    split
    · rfl
    · rw [forgetDone, forget_apply]

end

/-! ### Blind lines -/

/-- A line that neither reads nor changes what a handover changes: its transaction, its suspension and its end do not depend
on it, and its register updates commute with it. Of a line that is written out and branches on nothing all four hold by
unfolding it, which is the fields' default. -/
structure Blind (m : Micro) : Prop where
  txn : ∀ (h : Handover) s, m.txn (h.apply s) = m.txn s := by intros; rfl
  sus : ∀ (h : Handover) s, m.sus (h.apply s) = m.sus s := by intros; rfl
  after : ∀ (h : Handover) d s, m.after d (h.apply s) = h.apply (m.after d s) := by intros; rfl
  ends : ∀ (h : Handover) s, m.ends (h.apply s) = m.ends s := by intros; rfl

/-- All lines are blind. -/
def AllBlind (lines : List Micro) : Prop := ∀ m ∈ lines, Blind m

theorem allBlind_nil : AllBlind [] := nofun

theorem allBlind_cons {m : Micro} {rest : List Micro} (hm : Blind m) (hr : AllBlind rest) : AllBlind (m :: rest) :=
  List.forall_mem_cons.mpr ⟨hm, hr⟩

theorem allBlind_append {l r : List Micro} (hl : AllBlind l) (hr : AllBlind r) : AllBlind (l ++ r) :=
  List.forall_mem_append.mpr ⟨hl, hr⟩

/-- An operation on the operand that commutes with handovers. -/
def BlindOp (op : ReadOp) : Prop := ∀ (h : Handover) d s, op d (h.apply s) = h.apply (op d s)

theorem fixPage_apply (h : Handover) (s : State) : fixPage (h.apply s) = h.apply (fixPage s) := by
  simp only [fixPage]
  show (if s.latch.c then _ else _) = _
  split <;> rfl

theorem allBlind_readEa {op : ReadOp} (hop : BlindOp op := by intro _ _ _; rfl) : AllBlind (readEa op) :=
  allBlind_cons { after := fun h d s => hop h d { s with opr := d } } allBlind_nil

theorem allBlind_writeEa {v : StoreValue} (hv : ∀ (h : Handover) s, v (h.apply s) = v s := by intros; rfl) :
    AllBlind (writeEa v) :=
  allBlind_cons { txn := fun h s => congrArg (writeTxn s.ea) (hv h s) } allBlind_nil

theorem allBlind_modifyEa {op : RmwOp}
    (hmodify : ∀ (h : Handover) v s, op.modify v (h.apply s) = ((op.modify v s).1, h.apply (op.modify v s).2) := by
      intros; rfl)
    (hafter : BlindOp op.after := by intro _ _ _; rfl) : AllBlind (modifyEa op) :=
  allBlind_cons {} <|
    allBlind_cons
      { after := fun h _ s =>
          congrArg (fun out : Byte × State => ({ out.2 with latch := { out.2.latch with r := out.1 } } : State))
            (hmodify h s.opr s) } <|
      allBlind_cons { after := fun h _ s => hafter h s.latch.r s } allBlind_nil

theorem allBlind_zeroPageIndexed {idx : Index}
    (hi : ∀ (h : Handover) s, idx (h.apply s) = idx s := by intros; rfl) : AllBlind (zeroPageIndexed idx) :=
  allBlind_cons {} <|
    allBlind_cons
      { after := fun h _ s => congrArg (fun i => h.apply { s with ea := writeLo s.ea (lo8 s.ea + i) }) (hi h s) }
      allBlind_nil

theorem allBlind_absoluteAddr : AllBlind absoluteAddr := allBlind_cons {} <| allBlind_cons {} allBlind_nil

/-- What T3 of absolute indexed makes of the index `i` (R127). -/
def indexedBy (d i : Byte) (s : State) : State :=
  { s with
    pc := s.pc + 1
    ea := word d (lo8 s.ea + i)
    latch := { s.latch with c := carryOut (lo8 s.ea) i, h := d } }

theorem allBlind_absoluteIndexed {idx : Index} {g : State → State}
    (hi : ∀ (h : Handover) s, idx (h.apply s) = idx s := by intros; rfl)
    (hg : ∀ (h : Handover) s, g (h.apply s) = h.apply (g s) := by intros; rfl) : AllBlind (absoluteIndexed idx g) :=
  allBlind_cons {} <|
    allBlind_cons
      { after := fun h d s =>
          (congrArg (fun i => g (h.apply (indexedBy d i s))) (hi h { s with pc := s.pc + 1 })).trans (hg h _) }
      allBlind_nil

theorem allBlind_indexedIndirect : AllBlind indexedIndirect :=
  allBlind_cons {} <| allBlind_cons {} <| allBlind_cons {} <| allBlind_cons {} allBlind_nil

theorem allBlind_indirectIndexed : AllBlind indirectIndexed :=
  allBlind_cons {} <| allBlind_cons {} <| allBlind_cons {} allBlind_nil

theorem allBlind_readIndexed {op : ReadOp} (hop : BlindOp op := by intro _ _ _; rfl) :
    AllBlind (readIndexed op) := by
  refine allBlind_cons { after := fun h d s => ?_ } (allBlind_readEa hop)
  show (if s.latch.c then fixPage (h.apply { s with opr := d }) else op d (h.apply { s with opr := d })) =
    h.apply (if s.latch.c then fixPage { s with opr := d } else op d { s with opr := d })
  rw [fixPage_apply, hop]
  split <;> rfl

theorem blind_dummyTentative : Blind dummyTentative := { after := fun h _ s => fixPage_apply h s }

theorem allBlind_entryLines : AllBlind entryLines :=
  allBlind_cons {} <| allBlind_cons {} <| allBlind_cons {} <| allBlind_cons {} <| allBlind_cons {} <|
    allBlind_cons {} <| allBlind_cons {} allBlind_nil

theorem allBlind_resetLines : AllBlind resetLines :=
  allBlind_cons {} <| allBlind_cons {} <| allBlind_cons {} <| allBlind_cons {} <| allBlind_cons {} <|
    allBlind_cons {} <| allBlind_cons {} allBlind_nil

/-- Every instruction is a sequence of blind lines or the jam: one case for each mode and access class, and for each shape of
the sequences that have a mode of their own. -/
theorem exec_blind (i : Instr) :
    (∀ s, exec i s = jam s) ∨ ∃ lines, (∀ s, exec i s = runInstr lines s) ∧ AllBlind lines := by
  cases i with
  | jam02 | jam12 | jam22 | jam32 | jam42 | jam52 | jam62 | jam72 | jam92 | jamB2 | jamD2 | jamF2 =>
    exact .inl fun _ => rfl
  | clc | nopImp1A | sec | nopImp3A | cli | nopImp5A | sei | nopImp7A | dey | txa | tya | txs | tay | tax | clv
  | tsx | iny | dex | cld | nopImpDA | inx | nop | sed | nopImpFA | aslAcc | rolAcc | lsrAcc | rorAcc | oraImm
  | ancImm0B | andImm | ancImm2B | eorImm | alr | adcImm | arr | nopImm80 | nopImm82 | nopImm89 | ane | ldyImm
  | ldxImm | ldaImm | lxa | cpyImm | nopImmC2 | cmpImm | sbx | cpxImm | nopImmE2 | sbcImm | usbc =>
    exact .inr ⟨_, fun _ => rfl, allBlind_cons {} allBlind_nil⟩
  | nopZp04 | oraZp | bitZp | andZp | nopZp44 | eorZp | nopZp64 | adcZp | ldyZp | ldaZp | ldxZp | laxZp | cpyZp
  | cmpZp | cpxZp | sbcZp =>
    exact .inr ⟨_, fun _ => rfl, allBlind_cons {} allBlind_readEa⟩
  | styZp | staZp | stxZp | saxZp =>
    exact .inr ⟨_, fun _ => rfl, allBlind_cons {} allBlind_writeEa⟩
  | aslZp | sloZp | rolZp | rlaZp | lsrZp | sreZp | rorZp | rraZp | decZp | dcpZp | incZp | iscZp =>
    exact .inr ⟨_, fun _ => rfl, allBlind_cons {} allBlind_modifyEa⟩
  | nopAbs0C | oraAbs | bitAbs | andAbs | eorAbs | adcAbs | ldyAbs | ldaAbs | ldxAbs | laxAbs | cpyAbs | cmpAbs
  | cpxAbs | sbcAbs =>
    exact .inr ⟨_, fun _ => rfl, allBlind_append allBlind_absoluteAddr allBlind_readEa⟩
  | styAbs | staAbs | stxAbs | saxAbs =>
    exact .inr ⟨_, fun _ => rfl, allBlind_append allBlind_absoluteAddr allBlind_writeEa⟩
  | aslAbs | sloAbs | rolAbs | rlaAbs | lsrAbs | sreAbs | rorAbs | rraAbs | decAbs | dcpAbs | incAbs | iscAbs =>
    exact .inr ⟨_, fun _ => rfl, allBlind_append allBlind_absoluteAddr allBlind_modifyEa⟩
  | nopZpx14 | oraZpx | nopZpx34 | andZpx | nopZpx54 | eorZpx | nopZpx74 | adcZpx | ldyZpx | ldaZpx | ldxZpy
  | laxZpy | nopZpxD4 | cmpZpx | nopZpxF4 | sbcZpx =>
    exact .inr ⟨_, fun _ => rfl, allBlind_append allBlind_zeroPageIndexed allBlind_readEa⟩
  | styZpx | staZpx | stxZpy | saxZpy =>
    exact .inr ⟨_, fun _ => rfl, allBlind_append allBlind_zeroPageIndexed allBlind_writeEa⟩
  | aslZpx | sloZpx | rolZpx | rlaZpx | lsrZpx | sreZpx | rorZpx | rraZpx | decZpx | dcpZpx | incZpx | iscZpx =>
    exact .inr ⟨_, fun _ => rfl, allBlind_append allBlind_zeroPageIndexed allBlind_modifyEa⟩
  | oraAby | nopAbx1C | oraAbx | andAby | nopAbx3C | andAbx | eorAby | nopAbx5C | eorAbx | adcAby | nopAbx7C
  | adcAbx | ldaAby | las | ldyAbx | ldaAbx | ldxAby | laxAby | cmpAby | nopAbxDC | cmpAbx | sbcAby | nopAbxFC
  | sbcAbx =>
    exact .inr ⟨_, fun _ => rfl, allBlind_append allBlind_absoluteIndexed allBlind_readIndexed⟩
  | staAby | staAbx =>
    refine .inr ⟨_, fun _ => rfl, ?_⟩
    exact allBlind_append allBlind_absoluteIndexed (allBlind_cons blind_dummyTentative allBlind_writeEa)
  | sloAby | aslAbx | sloAbx | rlaAby | rolAbx | rlaAbx | sreAby | lsrAbx | sreAbx | rraAby | rorAbx | rraAbx
  | dcpAby | decAbx | dcpAbx | iscAby | incAbx | iscAbx =>
    refine .inr ⟨_, fun _ => rfl, ?_⟩
    exact allBlind_append allBlind_absoluteIndexed (allBlind_cons blind_dummyTentative allBlind_modifyEa)
  | tas | shy | shx | shaAby =>
    refine .inr ⟨_, fun _ => rfl, ?_⟩
    exact allBlind_append allBlind_absoluteIndexed (allBlind_cons blind_dummyTentative (allBlind_cons {} allBlind_nil))
  | oraIzx | andIzx | eorIzx | adcIzx | ldaIzx | laxIzx | cmpIzx | sbcIzx =>
    exact .inr ⟨_, fun _ => rfl, allBlind_append allBlind_indexedIndirect allBlind_readEa⟩
  | staIzx | saxIzx =>
    exact .inr ⟨_, fun _ => rfl, allBlind_append allBlind_indexedIndirect allBlind_writeEa⟩
  | sloIzx | rlaIzx | sreIzx | rraIzx | dcpIzx | iscIzx =>
    exact .inr ⟨_, fun _ => rfl, allBlind_append allBlind_indexedIndirect allBlind_modifyEa⟩
  | oraIzy | andIzy | eorIzy | adcIzy | ldaIzy | laxIzy | cmpIzy | sbcIzy =>
    exact .inr ⟨_, fun _ => rfl, allBlind_append allBlind_indirectIndexed allBlind_readIndexed⟩
  | staIzy =>
    refine .inr ⟨_, fun _ => rfl, ?_⟩
    exact allBlind_append allBlind_indirectIndexed (allBlind_cons blind_dummyTentative allBlind_writeEa)
  | sloIzy | rlaIzy | sreIzy | rraIzy | dcpIzy | iscIzy =>
    refine .inr ⟨_, fun _ => rfl, ?_⟩
    exact allBlind_append allBlind_indirectIndexed (allBlind_cons blind_dummyTentative allBlind_modifyEa)
  | shaIzy =>
    refine .inr ⟨_, fun _ => rfl, ?_⟩
    exact allBlind_append allBlind_indirectIndexed (allBlind_cons blind_dummyTentative (allBlind_cons {} allBlind_nil))
  | bpl | bmi | bvc | bvs | bcc | bcs | bne | beq =>
    exact .inr ⟨_, fun _ => rfl, allBlind_cons {} <| allBlind_cons {} <| allBlind_cons {} allBlind_nil⟩
  | pha | php | jmpAbs =>
    exact .inr ⟨_, fun _ => rfl, allBlind_cons {} <| allBlind_cons {} allBlind_nil⟩
  | pla | plp =>
    exact .inr ⟨_, fun _ => rfl, allBlind_cons {} <| allBlind_cons {} <| allBlind_cons {} allBlind_nil⟩
  | jmpInd =>
    refine .inr ⟨_, fun _ => rfl, ?_⟩
    exact allBlind_cons {} <| allBlind_cons {} <| allBlind_cons {} <| allBlind_cons {} allBlind_nil
  | jsr | rts | rti =>
    refine .inr ⟨_, fun _ => rfl, ?_⟩
    exact allBlind_cons {} <| allBlind_cons {} <| allBlind_cons {} <| allBlind_cons {} <| allBlind_cons {} allBlind_nil
  | brk =>
    refine .inr ⟨_, fun _ => rfl, ?_⟩
    exact allBlind_cons {} <| allBlind_cons {} <| allBlind_cons {} <| allBlind_cons {} <| allBlind_cons {} <|
      allBlind_cons {} allBlind_nil

end Sys2Proof.Proofs
end

section
/-! SUPPORT. Yield and resumption (R342): a sequence that yields, is granted cycles and resumed goes on as it would have gone on with those cycles from the start. -/

namespace Sys2Proof.Proofs

open Sys2Proof.Machine Sys2Proof.Safety Sys2Proof.Laws

/-! ### A line after its transaction -/

/-- A sequence from step e of transaction `k` on: the register updates of its line, then the end or the further lines. -/
def goOn (q : SeqKind) (k : Nat) (m : Micro) (rest : List Micro) (d : Byte) (s : State) : Result :=
  if m.ends (m.after d s) then .next (finish (m.after d s)) else runFrom q (k + 1) rest (m.after d s)

theorem runFrom_cons_of_done {q : SeqKind} {k : Nat} {m : Micro} {rest : List Micro} {s u : State} {d : Byte}
    (h : transact q k (m.sus s) (m.txn s) s = .done d u) :
    runFrom q k (m :: rest) s = goOn q k m rest d (stepE u) := by
  rw [runFrom_cons, h, goOn]

theorem runSeq_retained_goOn {q : SeqKind} {first k : Nat} {d : Byte} {lines rest : List Micro} {m : Micro} {s : State}
    (h : s.position = .inTxn q k d) (hk : first ≤ k) (hl : lines.drop (k - first) = m :: rest) :
    runSeq q first lines s = goOn q k m rest d (stepE s) :=
  runSeq_retained h hk hl

/-- From a retained position a sequence answers only if it has that transaction. -/
theorem runSeq_retained_next {q q' : SeqKind} {first k : Nat} {d : Byte} {lines : List Micro} {s t : State}
    (hp : s.position = .inTxn q' k d) (h : runSeq q first lines s = .next t) :
    q' = q ∧ first ≤ k ∧ ∃ m rest, lines.drop (k - first) = m :: rest := by
  simp only [runSeq, hp] at h
  split at h
  next hqk =>
    refine ⟨hqk.1, hqk.2, ?_⟩
    split at h
    next => cases h
    next m rest hl => exact ⟨m, rest, hl⟩
  next => cases h

/-- Going on from a retained position needs only the lines from there on. -/
theorem runSeq_drop {q : SeqKind} {first k j : Nat} {d : Byte} {lines : List Micro} {s : State}
    (hp : s.position = .inTxn q j d) (hk : first ≤ k) (hj : k ≤ j) :
    runSeq q first lines s = runSeq q k (lines.drop (k - first)) s := by
  simp only [runSeq, hp, List.drop_drop, show k - first + (j - k) = j - first by omega, hj, hk.trans hj]

/-! ### The last report is not seen -/

theorem forgetReport_finish_forget (s : State) :
    forgetReport (.next (finish (Handover.forget.apply s))) = forgetReport (.next (finish s)) := by
  simp only [forgetReport, forget_apply, finish]

/-- What follows a transaction does not depend on the last report when the lines after it do not. -/
theorem goOn_forget {q : SeqKind} {k : Nat} {m : Micro} {rest : List Micro} (hm : Blind m)
    (hr : ∀ s, forgetReport (runFrom q (k + 1) rest (Handover.forget.apply s)) = forgetReport (runFrom q (k + 1) rest s))
    (d : Byte) (s : State) :
    forgetReport (goOn q k m rest d (Handover.forget.apply s)) = forgetReport (goOn q k m rest d s) := by
  simp only [goOn, hm.after, hm.ends]
  split
  next => exact forgetReport_finish_forget _
  next => exact hr _

/-- A sequence does not depend on the last report. -/
theorem runFrom_forget {q : SeqKind} : ∀ {lines : List Micro} {k : Nat}, AllBlind lines → ∀ s : State,
    forgetReport (runFrom q k lines (Handover.forget.apply s)) = forgetReport (runFrom q k lines s)
  | [], _, _, s => forgetReport_finish_forget s
  | m :: rest, k, hl, s => by
    obtain ⟨hm, hr⟩ := List.forall_mem_cons.mp hl
    have ht := transact_forget q k (m.sus s) (m.txn s) s
    cases hs : transact q k (m.sus s) (m.txn s) s with
    | refused e => simp only [runFrom_cons, hm.sus, hm.txn, ht, hs, forgetDone]
    | stopped u => simp only [runFrom_cons, hm.sus, hm.txn, ht, hs, forgetDone]
    | done d u =>
      rw [runFrom_cons_of_done hs, runFrom_cons_of_done (d := d) (u := Handover.forget.apply u)]
      · exact goOn_forget hm (runFrom_forget hr) d (stepE u)
      · rw [hm.sus, hm.txn, ht, hs, forgetDone]

/-- States that differ in the last report only go on alike. -/
theorem goOn_congr {q : SeqKind} {k : Nat} {m : Micro} {rest : List Micro} {s t : State} (d : Byte)
    (hl : AllBlind (m :: rest)) (hst : Handover.forget.apply s = Handover.forget.apply t) :
    forgetReport (goOn q k m rest d s) = forgetReport (goOn q k m rest d t) := by
  obtain ⟨hm, hr⟩ := List.forall_mem_cons.mp hl
  rw [← goOn_forget hm (runFrom_forget hr), hst, goOn_forget hm (runFrom_forget hr)]

theorem runSeq_forget {q : SeqKind} {first : Nat} {lines : List Micro} (hl : AllBlind lines) (s : State) :
    forgetReport (runSeq q first lines (Handover.forget.apply s)) = forgetReport (runSeq q first lines s) := by
  cases hp : s.position with
  | boundary =>
    rw [runSeq_boundary hp, runSeq_boundary (s := Handover.forget.apply s) hp]
    exact runFrom_forget hl s
  | inTxn q' k d =>
    simp only [runSeq, hp, show (Handover.forget.apply s).position = .inTxn q' k d from hp]
    split
    next =>
      cases hd : lines.drop (k - first) with
      | nil => rfl
      | cons m rest =>
        have hl' : AllBlind (m :: rest) := fun m' hm' => hl m' (List.mem_of_mem_drop (hd ▸ hm'))
        obtain ⟨hm, hr⟩ := List.forall_mem_cons.mp hl'
        exact goOn_forget hm (runFrom_forget hr) d (stepE s)
    next => rfl

theorem jam_forget (s : State) : forgetReport (jam (Handover.forget.apply s)) = forgetReport (jam s) := by
  simp only [jam, forgetReport, forget_apply, finish, stop]

/-- An instruction does not depend on the last report. -/
theorem exec_forget (i : Instr) (s : State) :
    forgetReport (exec i (Handover.forget.apply s)) = forgetReport (exec i s) := by
  obtain hj | ⟨lines, he, hl⟩ := exec_blind i
  · rw [hj, hj, jam_forget]
  · rw [he, he]
    exact runSeq_forget hl s

/-! ### Yield and resumption of a sequence -/

/-- The core has yielded inside a sequence and `n` more cycles let it go on. -/
structure Yielded (n : Int) (t : State) : Prop where
  inside : t.position ≠ .boundary
  running : t.run = .running
  granted : 0 ≤ n
  enough : 0 < t.sched.budget + n

/-- Resumed with `n` more cycles, the sequence does from transaction `k` on or later what `r` did. -/
def Resumes (q : SeqKind) (k : Nat) (lines : List Micro) (n : Int) (t : State) (r : Result) : Prop :=
  (∃ j d, k ≤ j ∧ t.position = .inTxn q j d) ∧
    forgetReport (runSeq q k lines ((Handover.resume n).apply t)) = forgetReport r

theorem Resumes.of_drop {q : SeqKind} {first k : Nat} {lines : List Micro} {n : Int} {t : State} {r : Result}
    (h : Resumes q k (lines.drop (k - first)) n t r) (hk : first ≤ k) : Resumes q first lines n t r := by
  obtain ⟨⟨j, d, hj, hp⟩, hr⟩ := h
  refine ⟨⟨j, d, hk.trans hj, hp⟩, ?_⟩
  rwa [runSeq_drop (s := (Handover.resume n).apply t) hp hk hj]

/-- A sequence that yields after a transaction that is done resumes as its further lines do. -/
theorem goOn_resumes {q : SeqKind} {k : Nat} {m : Micro} {rest : List Micro} {d : Byte} {n : Int} {s t : State}
    (hm : Blind m) (hy : Yielded n t) (h : goOn q k m rest d s = .next t)
    (hr : ∀ u, runFrom q (k + 1) rest u = .next t →
      Resumes q (k + 1) rest n t (runFrom q (k + 1) rest ((Handover.resume n).apply u))) :
    Resumes q (k + 1) rest n t (goOn q k m rest d ((Handover.resume n).apply s)) := by
  simp only [goOn, hm.after, hm.ends] at h ⊢
  split at h
  next =>
    cases h
    exact absurd rfl hy.inside
  next hne => rw [if_neg hne]; exact hr _ h

/-- A sequence that yields resumes as it would have run with the cycles granted at its start. -/
theorem runFrom_resumes {q : SeqKind} {n : Int} {t : State} (hy : Yielded n t) : ∀ {lines : List Micro} {k : Nat}
    {s : State}, AllBlind lines → runFrom q k lines s = .next t →
    Resumes q k lines n t (runFrom q k lines ((Handover.resume n).apply s))
  | [], k, s, _, h => by
    cases h
    exact absurd rfl hy.inside
  | m :: rest, k, s, hl, h => by
    obtain ⟨hm, hr⟩ := List.forall_mem_cons.mp hl
    have hdone : ∀ d v, busCycle 0 (m.txn s) (polled (m.sus s) s) = .answered d v → 0 < v.sched.budget + n →
        runFrom q k (m :: rest) ((Handover.resume n).apply s) = goOn q k m rest d (stepE ((Handover.resume n).apply v)) := by
      intro d v hb hleft
      refine runFrom_cons_of_done ?_
      rw [hm.sus, hm.txn]
      exact transact_apply_of_answered hb hleft
    cases hs : transact q k (m.sus s) (m.txn s) s with
    | refused e => simp [runFrom_cons, hs] at h
    | stopped u =>
      obtain rfl : u = t := by simpa [runFrom_cons, hs] using h
      obtain ⟨e, v, -, rfl⟩ | ⟨d, v, hb, -, rfl⟩ := transact_stopped hs
      · exact absurd hy.running nofun
      · refine ⟨⟨k, d, le_rfl, rfl⟩, ?_⟩
        rw [hdone d v hb hy.enough, runSeq_retained_goOn (k := k) (d := d) (m := m) (rest := rest) rfl le_rfl (by simp)]
        exact goOn_congr d hl (by simp only [forget_apply]; rfl)
    | done d u =>
      obtain ⟨hb, hleft⟩ := transact_done hs
      rw [runFrom_cons_of_done hs] at h
      rw [hdone d u hb (by have := hy.granted; omega)]
      have hres : Resumes q (k + 1) ((m :: rest).drop (k + 1 - k)) n t
          (goOn q k m rest d ((Handover.resume n).apply (stepE u))) := by
        rw [Nat.add_sub_cancel_left]
        exact goOn_resumes hm hy h fun _ => runFrom_resumes hy hr
      exact hres.of_drop (Nat.le_succ k)

/-- The same for a sequence that starts at a boundary or goes on from its retained position. -/
theorem runSeq_resumes {q : SeqKind} {first : Nat} {lines : List Micro} {n : Int} {s t : State} (hl : AllBlind lines)
    (hy : Yielded n t) (h : runSeq q first lines s = .next t) :
    Resumes q first lines n t (runSeq q first lines ((Handover.resume n).apply s)) := by
  cases hp : s.position with
  | boundary =>
    rw [runSeq_boundary hp] at h
    rw [runSeq_boundary (s := (Handover.resume n).apply s) hp]
    exact runFrom_resumes hy hl h
  | inTxn q' k d =>
    obtain ⟨rfl, hk, m, rest, hd⟩ := runSeq_retained_next hp h
    have hl' : AllBlind (m :: rest) := fun m' hm' => hl m' (List.mem_of_mem_drop (hd ▸ hm'))
    obtain ⟨hm, hr⟩ := List.forall_mem_cons.mp hl'
    rw [runSeq_retained_goOn hp hk hd] at h
    rw [runSeq_retained_goOn (s := (Handover.resume n).apply s) hp hk hd]
    have hrest : rest = lines.drop (k + 1 - first) := by
      rw [Nat.sub_add_comm hk, ← List.drop_drop, hd, List.drop_succ_cons, List.drop_zero]
    have hres := goOn_resumes hm hy h fun _ => runFrom_resumes hy hr
    exact (hrest ▸ hres : Resumes _ (k + 1) (lines.drop (k + 1 - first)) _ _ _).of_drop (by omega)

/-! ### Yield and resumption of an instruction -/

theorem transact_stopped_ir {q : SeqKind} {k : Nat} {sus : Bool} {t : Txn} {s u : State}
    (h : transact q k sus t s = .stopped u) : u.ir = s.ir := by
  obtain ⟨e, v, hb, rfl⟩ | ⟨d, v, hb, -, rfl⟩ := transact_stopped h
  · exact ((steady_polled sus s).trans (steady_busCycle_failed hb)).ir
  · exact ((steady_polled sus s).trans (steady_busCycle_answered hb)).ir

/-- An instruction leaves its opcode latched, also where it stops. -/
theorem exec_ir {i : Instr} {s t : State} (h : exec i s = .next t) : t.ir = s.ir := by
  obtain ⟨-, hj⟩ | ⟨lines, hl, -, he⟩ := exec_shape i
  · cases (hj s).symm.trans h
    rfl
  · refine runSeq_next (P := fun u => u.ir = s.ir) (Q := fun u => u.ir = s.ir) ?done ?stopped (fun _ => id) (fun _ => rfl)
      ?retained ((he s).symm.trans h)
    case done => exact fun m hm _ u v d hu hv => ((hl m hm).after d _).ir.trans ((steady_transact_done hv).ir.trans hu)
    case stopped => exact fun m _ _ u v _ _ hu hv => (transact_stopped_ir hv).trans hu
    case retained => exact fun m hm _ d _ => ((hl m hm).after d _).ir

/-- An instruction that yields has yielded after its opcode fetch, and resumes as it would have run with the cycles granted
at its start. -/
theorem exec_resumes {i : Instr} {n : Int} {s t : State} (hy : Yielded n t) (h : exec i s = .next t) :
    (∃ j d, t.position = .inTxn .instr (j + 1) d) ∧
      forgetReport (exec i ((Handover.resume n).apply t)) = forgetReport (exec i ((Handover.resume n).apply s)) := by
  obtain hj | ⟨lines, he, hl⟩ := exec_blind i
  · cases (hj s).symm.trans h
    exact absurd rfl hy.inside
  · obtain ⟨⟨j, d, hk, hp⟩, hr⟩ := runSeq_resumes hl hy ((he s).symm.trans h)
    obtain ⟨j, rfl⟩ := Nat.exists_eq_add_of_le' hk
    refine ⟨⟨j, d, hp⟩, ?_⟩
    rwa [he, he]

/-! ### Yield and resumption of a step -/

/-- A core at a retained position inside an instruction goes on with it. -/
theorem coreStep_inside_instr {s : State} {k : Nat} {d : Byte} (hp : s.position = .inTxn .instr (k + 1) d) :
    coreStep s = decodeAndExec s := by
  simp only [coreStep, hp]

/-- A core that yielded in its opcode fetch goes on from its step e (R99). -/
theorem coreStep_inside_fetch {s : State} {d : Byte} (hp : s.position = .inTxn .instr 0 d) :
    coreStep s = decodeAndExec (latchOpcode d s) := by
  simp only [coreStep, hp]

theorem coreStep_inside_entry {s : State} {k : Nat} {d : Byte} (hp : s.position = .inTxn .entry k d) :
    coreStep s = resumeEntry s := by
  simp only [coreStep, hp]

theorem coreStep_inside_reset {s : State} {k : Nat} {d : Byte} (hp : s.position = .inTxn .reset k d) :
    coreStep s = resumeReset s := by
  simp only [coreStep, hp]

theorem resumeEntry_resumes {n : Int} {s t : State} (hy : Yielded n t) (h : resumeEntry s = .next t) :
    (∃ j d, t.position = .inTxn .entry j d) ∧
      forgetReport (resumeEntry ((Handover.resume n).apply t)) =
        forgetReport (resumeEntry ((Handover.resume n).apply s)) := by
  obtain ⟨⟨j, d, -, hp⟩, hr⟩ := runSeq_resumes allBlind_entryLines hy h
  exact ⟨⟨j, d, hp⟩, hr⟩

theorem resumeReset_resumes {n : Int} {s t : State} (hy : Yielded n t) (h : resumeReset s = .next t) :
    (∃ j d, t.position = .inTxn .reset j d) ∧
      forgetReport (resumeReset ((Handover.resume n).apply t)) =
        forgetReport (resumeReset ((Handover.resume n).apply s)) := by
  obtain ⟨⟨j, d, -, hp⟩, hr⟩ := runSeq_resumes allBlind_resetLines hy h
  exact ⟨⟨j, d, hp⟩, hr⟩

section
variable {n : Int} {s t : State} (hy : Yielded n t)
include hy

/-- When the instruction of a step yields, the step that resumes it goes on with it: its opcode is still latched. -/
theorem coreStep_resumes_instr (h : decodeAndExec s = .next t) :
    forgetReport (coreStep ((Handover.resume n).apply t)) =
      forgetReport (decodeAndExec ((Handover.resume n).apply s)) := by
  obtain ⟨⟨j, d, hp⟩, hr⟩ := exec_resumes hy h
  rw [coreStep_inside_instr (s := (Handover.resume n).apply t) hp]
  have hir : t.ir = s.ir := exec_ir h
  show forgetReport (exec (decodeOpcode t.ir) _) = _
  rwa [hir]

theorem coreStep_resumes_entry (h : resumeEntry s = .next t) :
    forgetReport (coreStep ((Handover.resume n).apply t)) =
      forgetReport (resumeEntry ((Handover.resume n).apply s)) := by
  obtain ⟨⟨j, d, hp⟩, hr⟩ := resumeEntry_resumes hy h
  rwa [coreStep_inside_entry (s := (Handover.resume n).apply t) hp]

theorem coreStep_resumes_reset (h : resumeReset s = .next t) :
    forgetReport (coreStep ((Handover.resume n).apply t)) =
      forgetReport (resumeReset ((Handover.resume n).apply s)) := by
  obtain ⟨⟨j, d, hp⟩, hr⟩ := resumeReset_resumes hy h
  rwa [coreStep_inside_reset (s := (Handover.resume n).apply t) hp]

end

section
variable {s : State} (hp : s.position = .boundary)
include hp

theorem coreStep_boundary_report {status : Status} (hb : boundaryAction s = .report status) :
    coreStep s = .next (stop status s) := by
  simp only [coreStep, hp, hb]

/-- An interrupt entry, from its start, is the sequence that a yield in it resumes (R321). -/
theorem coreStep_boundary_entry (hb : boundaryAction s = .entry) : coreStep s = resumeEntry (entryStart s) := by
  simp only [coreStep, hp, hb]
  rfl

/-- The reset sequence, from its start, is the sequence that a yield in it resumes (R362). -/
theorem coreStep_boundary_reset (hb : boundaryAction s = .reset) : coreStep s = resumeReset (resetStart s) := by
  simp only [coreStep, hp, hb]
  rfl

theorem coreStep_fetch_done {d : Byte} {u : State} (hb : boundaryAction s = .fetch) (hf : fetchOpcode s = .done d u) :
    coreStep s = decodeAndExec (latchOpcode d u) := by
  simp only [coreStep, hp, hb, hf]

theorem coreStep_fetch_stopped {u : State} (hb : boundaryAction s = .fetch) (hf : fetchOpcode s = .stopped u) :
    coreStep s = .next u := by
  simp only [coreStep, hp, hb, hf]

theorem coreStep_fetch_refused {m : Misuse} (hb : boundaryAction s = .fetch) (hf : fetchOpcode s = .refused m) :
    coreStep s = .refused (.outOfContract m) := by
  simp only [coreStep, hp, hb, hf]

end

theorem boundaryAction_apply (h : Handover) (s : State) : boundaryAction (h.apply s) = boundaryAction s := rfl

section
variable {n : Int} {s t : State} (hy : Yielded n t)
include hy

/-- At a boundary where the opcode is fetched the step yields in the fetch or in the instruction. -/
theorem coreStep_resumes_fetch (hp : s.position = .boundary) (hb : boundaryAction s = .fetch)
    (h : coreStep s = .next t) :
    forgetReport (coreStep ((Handover.resume n).apply t)) =
      forgetReport (coreStep ((Handover.resume n).apply s)) := by
  have hgranted : ∀ d v, busCycle 0 (readTxn s.pc) (polled false s) = .answered d v → 0 < v.sched.budget + n →
      coreStep ((Handover.resume n).apply s) = decodeAndExec (latchOpcode d ((Handover.resume n).apply v)) :=
    fun d v hbus hleft => coreStep_fetch_done (s := (Handover.resume n).apply s) hp ((boundaryAction_apply _ s).trans hb)
      (transact_apply_of_answered hbus hleft)
  cases hf : fetchOpcode s with
  | refused m => simp [coreStep_fetch_refused hp hb hf] at h
  | stopped u =>
    obtain rfl : u = t := by simpa [coreStep_fetch_stopped hp hb hf] using h
    obtain ⟨e, v, -, rfl⟩ | ⟨d, v, hbus, -, rfl⟩ := transact_stopped hf
    · exact absurd hy.running nofun
    · rw [hgranted d v hbus hy.enough, coreStep_inside_fetch (d := d) rfl, decodeAndExec, decodeAndExec,
        ← exec_forget, ← exec_forget _ (latchOpcode d ((Handover.resume n).apply v))]
      simp only [forget_apply]
      rfl
  | done d u =>
    obtain ⟨hbus, hleft⟩ := transact_done hf
    rw [coreStep_fetch_done hp hb hf] at h
    rw [hgranted d u hbus (by have := hy.granted; omega)]
    exact coreStep_resumes_instr hy h

/-- A step of the core that yields resumes, in the next step, as it would have gone on with the cycles granted at its
start. -/
theorem coreStep_resumes (h : coreStep s = .next t) :
    forgetReport (coreStep ((Handover.resume n).apply t)) =
      forgetReport (coreStep ((Handover.resume n).apply s)) := by
  cases hp : s.position with
  | boundary =>
    have hp' : ((Handover.resume n).apply s).position = .boundary := hp
    cases hb : boundaryAction s with
    | report status =>
      cases (coreStep_boundary_report hp hb).symm.trans h
      exact absurd hp hy.inside
    | reset =>
      rw [coreStep_boundary_reset hp' hb]
      exact coreStep_resumes_reset hy ((coreStep_boundary_reset hp hb).symm.trans h)
    | entry =>
      rw [coreStep_boundary_entry hp' hb]
      exact coreStep_resumes_entry hy ((coreStep_boundary_entry hp hb).symm.trans h)
    | fetch => exact coreStep_resumes_fetch hy hp hb h
  | inTxn q k d =>
    have hp' : ((Handover.resume n).apply s).position = .inTxn q k d := hp
    cases q with
    | reset =>
      rw [coreStep_inside_reset hp']
      exact coreStep_resumes_reset hy ((coreStep_inside_reset hp).symm.trans h)
    | entry =>
      rw [coreStep_inside_entry hp']
      exact coreStep_resumes_entry hy ((coreStep_inside_entry hp).symm.trans h)
    | instr =>
      cases k with
      | zero =>
        rw [coreStep_inside_fetch hp']
        exact coreStep_resumes_instr hy ((coreStep_inside_fetch hp).symm.trans h)
      | succ k =>
        rw [coreStep_inside_instr hp']
        exact coreStep_resumes_instr hy ((coreStep_inside_instr hp).symm.trans h)

end

theorem step_core {s : State} (ha : s.active = some 0) : step s = coreStep s := by
  simp only [step, ha]

/-- Settles O53: on an active core the grant is the handover that resumes it, so each part is the lemma of its sequence. -/
theorem yieldAndResumptionAreTransparent : Obligations.YieldAndResumptionAreTransparent := by
  unfold Obligations.YieldAndResumptionAreTransparent
  intro s t n ha hc _ hinside hrunning hgranted henough
  have hy : Yielded n t := ⟨hinside, hrunning, hgranted, henough⟩
  rw [← resume_apply_of_active n ha hc, ← resume_apply n t]
  refine ⟨fun i h => (exec_resumes hy h).2, fun h => (resumeEntry_resumes hy h).2, fun h => (resumeReset_resumes hy h).2,
    fun h => ?_⟩
  rw [step_core (s := (Handover.resume n).apply t) rfl, step_core (s := (Handover.resume n).apply s) rfl]
  exact coreStep_resumes hy ((step_core ha).symm.trans h)

end Sys2Proof.Proofs
end

section
/-! SUPPORT. A transaction of the core, written out (R61): what it is for each outcome of step b, with the event, the tick
and the yield, on plain memory and under each reply of the oracle RESOLVER. -/

namespace Sys2Proof.Proofs

open Sys2Proof.Machine Sys2Proof.Safety Sys2Proof.Laws

/-! ### Step 0: the poll -/

/-- Step 0 of R61, where a state that polls is not suspended already. -/
theorem polled_eq_ite (sus : Bool) (s : State) :
    polled sus s = if s.suspend || sus then { s with suspend := true } else poll s := by
  unfold polled
  split
  next => rfl
  next hsus =>
    have hs : s.suspend = false := by simp_all
    rw [← hs]

@[simp] theorem polled_sched (sus : Bool) (s : State) : (polled sus s).sched = s.sched := by
  unfold polled; split <;> rfl

@[simp] theorem polled_history (sus : Bool) (s : State) : (polled sus s).history = s.history := by
  unfold polled; split <;> rfl

@[simp] theorem polled_mem (sus : Bool) (s : State) : (polled sus s).mem = s.mem := by
  unfold polled; split <;> rfl

@[simp] theorem polled_devices (sus : Bool) (s : State) : (polled sus s).devices = s.devices := by
  unfold polled; split <;> rfl

@[simp] theorem polled_pc (sus : Bool) (s : State) : (polled sus s).pc = s.pc := by
  unfold polled; split <;> rfl

@[simp] theorem regs_polled (sus : Bool) (s : State) : regs (polled sus s) = regs s := by
  unfold polled; split <;> rfl

/-! ### Step b: the reply of the oracle -/

section
variable {t : Txn} {r : Reply} {s u : State} (hd : toDevice t s = true) (hr : Config.resolver t s.history = r)
include hd hr

/-- R334: a call of the resolver that is out of contract. -/
theorem resolve_device_refused {m : Misuse} (hc : collaborate r.calls s = .error m) : resolve t s = .refused m := by
  simp only [resolve, hd, if_true, hr, hc]

variable (hc : collaborate r.calls s = .ok u)
include hc

/-- R331: the resolver throws. -/
theorem resolve_device_thrown {code : Nat} (ha : r.answer = .thrown code) :
    resolve t s = .failed (.thrown code) u := by
  simp only [resolve, hd, if_true, hr, hc, ha]

/-- R63 gives the answer to a write no meaning. -/
theorem resolve_device_write {v : Int} (ha : r.answer = .value v) (hw : t.dir = .write) :
    resolve t s = .answered t.data u := by
  simp only [resolve, hd, if_true, hr, hc, ha, hw]

/-- R63, R331: the value of a read is the byte read, or a failure when it is none. -/
theorem resolve_device_read {v : Int} (ha : r.answer = .value v) (hrd : t.dir = .read) :
    resolve t s = if 0 ≤ v ∧ v ≤ 255 then .answered (BitVec.ofInt 8 v) u else .failed (.notAByte v) u := by
  simp only [resolve, hd, if_true, hr, hc, ha, hrd]

end

/-! ### Steps a to d, by the outcome of step b -/

/-- Step a of R61 for the core: the state in which the resolver is asked. -/
def accounted (sus : Bool) (t : Txn) (s : State) : State :=
  updateSched 0 (Sched.account (s.sched.due t.dir)) (polled sus s)

section
variable (sus : Bool) (t : Txn) (s : State)

@[simp] theorem accounted_history : (accounted sus t s).history = s.history := polled_history sus s

@[simp] theorem accounted_mem : (accounted sus t s).mem = s.mem := polled_mem sus s

@[simp] theorem accounted_devices : (accounted sus t s).devices = s.devices := polled_devices sus s

@[simp] theorem accounted_pc : (accounted sus t s).pc = s.pc := polled_pc sus s

@[simp] theorem regs_accounted : regs (accounted sus t s) = regs s := regs_polled sus s

@[simp] theorem accounted_sched : (accounted sus t s).sched = s.sched.account (s.sched.due t.dir) :=
  congrArg (Sched.account _) (polled_sched sus s)

@[simp] theorem peek_accounted (a : Word) : peek (accounted sus t s) a = peek s a := by
  simp only [peek, accounted_mem]

@[simp] theorem toDevice_accounted (x : Txn) : toDevice x (accounted sus t s) = toDevice x s := by
  simp only [toDevice, accounted_devices]

end

/-- Steps b and c of R61 for the core, once the answer is the byte `d`: the event and the tick. -/
def performed (t : Txn) (d : Byte) (u : State) : State := updateSched 0 Sched.tick (record 0 t d u)

/-- Steps a to c of R61 for the core, by the outcome of step b. -/
theorem busCycle_polled (sus : Bool) (t : Txn) (s : State) :
    busCycle 0 t (polled sus s) =
      match resolve t (accounted sus t s) with
      | .refused m => .refused m
      | .failed e u => .failed e (updateSched 0 (Sched.unaccount (s.sched.due t.dir)) u)
      | .answered d u => .answered d (performed t d u) := by
  simp only [busCycle, schedOf_core, Option.map_some, Option.getD_some, polled_sched]
  rfl

section
variable (q : SeqKind) (k : Nat) {sus : Bool} {t : Txn} {s : State}

theorem transact_of_refused {m : Misuse} (hr : resolve t (accounted sus t s) = .refused m) :
    transact q k sus t s = .refused m := by
  simp only [transact_eq, busCycle_polled, hr]

/-- R331: the stall accounting is undone, and the core stops Faulted. -/
theorem transact_of_failed {e : Payload} {u : State} (hr : resolve t (accounted sus t s) = .failed e u) :
    transact q k sus t s = .stopped (stop (.faulted e)
      { updateSched 0 (Sched.unaccount (s.sched.due t.dir)) u with run := .faulted e, position := .inTxn q k 0 }) := by
  simp only [transact_eq, busCycle_polled, hr]

/-- R61, R342: the transaction is performed, and the core yields when its budget is used up. -/
theorem transact_of_answered {d : Byte} {u : State} (hr : resolve t (accounted sus t s) = .answered d u) :
    transact q k sus t s =
      if 0 < (performed t d u).sched.budget then .done d (performed t d u)
      else .stopped (stop .exhausted { performed t d u with position := .inTxn q k d }) := by
  simp only [transact_eq, busCycle_polled, hr]
  by_cases hleft : 0 < (performed t d u).sched.budget
  · rw [if_pos hleft]
    exact if_neg (not_le.mpr hleft)
  · rw [if_neg hleft]
    exact if_pos (not_lt.mp hleft)

end

/-- The core after a read that memory answers with `d` (R61, R64): the stall cycles pending are accounted. -/
theorem performed_read (sus : Bool) (a : Word) (d : Byte) (s : State) :
    performed (readTxn a) d (accounted sus (readTxn a) s) =
      { polled sus s with
        sched :=
          ⟨s.sched.budget - s.sched.stallPending - 1, s.sched.clock + s.sched.stallPending + 1, 0, s.sched.ctx⟩
        history := ⟨0, s.sched.clock + s.sched.stallPending, .read, a, d⟩ :: s.history } := by
  simp [performed, accounted, record, updateSched, readTxn, Sched.account, Sched.tick]

/-- The core after a write that memory stores (R61): the stall cycles stay pending. -/
theorem performed_write (sus : Bool) (a : Word) (v : Byte) (s : State) :
    performed (writeTxn a v) v (poke (accounted sus (writeTxn a v) s) a v) =
      { polled sus s with
        sched := ⟨s.sched.budget - 1, s.sched.clock + 1, s.sched.stallPending, s.sched.ctx⟩
        history := ⟨0, s.sched.clock, .write, a, v⟩ :: s.history
        mem := Memory.write s.mem a.toNat v } := by
  simp [performed, accounted, record, updateSched, writeTxn, Sched.account, Sched.tick, poke]

/-- Settles O51: plain memory answers the byte read or stores the byte written, and the transaction is performed. -/
theorem transactionAccountsRecordsAndYields : Obligations.TransactionAccountsRecordsAndYields := by
  unfold Obligations.TransactionAccountsRecordsAndYields
  intro q k sus a v s hs
  have hplain : ∀ t : Txn, t.bank = 0 → toDevice t (accounted sus t s) = false := fun t hb =>
    (toDevice_accounted sus t s t).trans (toDevice_plain hb hs)
  have hread : resolve (readTxn a) (accounted sus (readTxn a) s) =
      .answered (peek s a) (accounted sus (readTxn a) s) :=
    (resolve_read (hplain _ rfl) rfl).trans (congrArg (Resolved.answered · _) (peek_accounted sus _ s a))
  have hwrite : resolve (writeTxn a v) (accounted sus (writeTxn a v) s) =
      .answered v (poke (accounted sus (writeTxn a v) s) a v) := resolve_write (hplain _ rfl) rfl
  rw [← polled_eq_ite, transact_of_answered q k hread, transact_of_answered q k hwrite, performed_read,
    performed_write]
  exact ⟨rfl, rfl⟩

/-- The registers are not a collaborator's (R63). -/
theorem regs_of_collaborated {s t : State} (h : Collaborated s t) : regs t = regs s := by
  simp only [regs, h.a, h.x, h.y, h.s, h.p]

/-- Settles O52: the calls are refused, or step b has the outcome of the answer, each with its transaction. -/
theorem deviceTransactionsFollowTheReply : Obligations.DeviceTransactionsFollowTheReply := by
  unfold Obligations.DeviceTransactionsFollowTheReply
  intro q k sus x s hdev
  have hd : toDevice x (accounted sus x s) = true := (toDevice_accounted sus x s x).trans hdev
  have hr : Config.resolver x (accounted sus x s).history = Config.resolver x s.history := by rw [accounted_history]
  rw [← polled_eq_ite]
  intro polled reply due
  split
  next m hc => exact transact_of_refused q k (resolve_device_refused hd hr hc)
  next u hc =>
    intro failed performed suspended answered
    have hkept : Collaborated (accounted sus x s) u := collaborate_collaborated hc
    refine ⟨?history, ?clock, ?mem, ?regs, ?pc, ?reply⟩
    case history => exact hkept.history.trans (accounted_history sus x s)
    case clock => exact hkept.clock.trans (congrArg Sched.clock (accounted_sched sus x s))
    case mem => exact hkept.mem.trans (accounted_mem sus x s)
    case regs => exact (regs_of_collaborated hkept).trans (regs_accounted sus x s)
    case pc => exact hkept.pc.trans (accounted_pc sus x s)
    case reply =>
      split
      next code ha => exact transact_of_failed q k (resolve_device_thrown hd hr hc ha)
      next v ha hdir =>
        have hread := resolve_device_read hd hr hc ha hdir
        split
        next hbyte => exact transact_of_answered q k (hread.trans (if_pos hbyte))
        next hbyte => exact transact_of_failed q k (hread.trans (if_neg hbyte))
      next v ha hdir => exact transact_of_answered q k (resolve_device_write hd hr hc ha hdir)

end Sys2Proof.Proofs
end

section
/-! SUPPORT. What every operation does to the event history (R65): the events already there stay beneath the new ones. -/

namespace Sys2Proof.Proofs

open Sys2Proof.Machine Sys2Proof.Safety Sys2Proof.Laws

/-! ### Transactions -/

theorem history_updateSched (h : Nat) (f : Sched → Sched) (s : State) : (updateSched h f s).history = s.history := by
  cases h <;> rfl

theorem history_resolve_answered {t : Txn} {d : Byte} {s u : State} (h : resolve t s = .answered d u) :
    u.history = s.history := by
  obtain ⟨-, -, -, rfl⟩ | ⟨-, -, -, rfl⟩ | ⟨-, hc⟩ := resolve_answered h
  · rfl
  · rfl
  · exact (collaborate_collaborated hc).history

/-- R65: a transaction that is performed puts one event on the history. -/
theorem history_busCycle_answered {h : Nat} {t : Txn} {d : Byte} {s u : State} (hb : busCycle h t s = .answered d u) :
    ∃ e, u.history = e :: s.history := by
  obtain ⟨v, hv, rfl⟩ := busCycle_answered hb
  refine ⟨_, (history_updateSched h _ _).trans (congrArg (List.cons _) ?_)⟩
  exact (history_resolve_answered hv).trans (history_updateSched h _ s)

/-- R331: a transaction that fails puts none there. -/
theorem history_busCycle_failed {h : Nat} {t : Txn} {e : Payload} {s u : State} (hb : busCycle h t s = .failed e u) :
    u.history = s.history := by
  obtain ⟨v, hv, rfl⟩ := busCycle_failed hb
  have hcalls := (collaborate_collaborated (resolve_failed hv).2).history
  exact (history_updateSched h _ v).trans (hcalls.trans (history_updateSched h _ s))

theorem history_suffix_busCycle_answered {h : Nat} {t : Txn} {d : Byte} {s u : State}
    (hb : busCycle h t s = .answered d u) : s.history <:+ u.history := by
  obtain ⟨e, he⟩ := history_busCycle_answered hb
  exact he ▸ List.suffix_cons e s.history

/-! ### Actions of the core -/

theorem history_suffix_transact_done {q : SeqKind} {k : Nat} {sus : Bool} {t : Txn} {d : Byte} {s u : State}
    (h : transact q k sus t s = .done d u) : s.history <:+ u.history :=
  polled_history sus s ▸ history_suffix_busCycle_answered (transact_done h).1

theorem history_suffix_transact_stopped {q : SeqKind} {k : Nat} {sus : Bool} {t : Txn} {s u : State}
    (h : transact q k sus t s = .stopped u) : s.history <:+ u.history := by
  rw [← polled_history sus s]
  obtain ⟨e, v, hb, rfl⟩ | ⟨d, v, hb, -, rfl⟩ := transact_stopped h
  · exact (history_busCycle_failed hb).symm ▸ List.suffix_rfl
  · exact history_suffix_busCycle_answered (u := v) hb

/-- Along a sequence of plain lines only its transactions touch the history. -/
theorem history_suffix_runSeq {q : SeqKind} {first : Nat} {lines : List Micro} {s t : State} (hl : AllPlain lines)
    (h : runSeq q first lines s = .next t) : s.history <:+ t.history := by
  have hafter : ∀ m ∈ lines, ∀ d u, (m.after d (stepE u)).history = u.history := fun m hm d u =>
    ((hl m hm).after d (stepE u)).history
  refine runSeq_next (P := fun u => s.history <:+ u.history) (Q := fun u => s.history <:+ u.history)
    ?done ?stopped (fun _ hu => hu) (fun _ => List.suffix_rfl) ?retained h
  case done =>
    intro m hm _ u v d hu hv
    rw [hafter m hm]
    exact hu.trans (history_suffix_transact_done hv)
  case stopped => exact fun _ _ _ u v _ _ hu hv => hu.trans (history_suffix_transact_stopped hv)
  case retained => exact fun m hm _ d _ => (hafter m hm d s).symm ▸ List.suffix_rfl

theorem history_suffix_decodeAndExec {s t : State} (h : decodeAndExec s = .next t) : s.history <:+ t.history := by
  rw [decodeAndExec] at h
  obtain ⟨-, hj⟩ | ⟨lines, hl, -, he⟩ := exec_shape (decodeOpcode s.ir)
  · cases (hj s).symm.trans h
    exact List.suffix_rfl
  · exact history_suffix_runSeq hl ((he s).symm.trans h)

theorem history_suffix_resumeEntry {s t : State} (h : resumeEntry s = .next t) : s.history <:+ t.history :=
  history_suffix_runSeq allPlain_entryLines h

theorem history_suffix_resumeReset {s t : State} (h : resumeReset s = .next t) : s.history <:+ t.history :=
  history_suffix_runSeq allPlain_resetLines h

/-- At an instruction boundary, by the action of R318. -/
theorem history_suffix_coreStep_boundary {s t : State} (hp : s.position = .boundary) (h : coreStep s = .next t) :
    s.history <:+ t.history := by
  cases hb : boundaryAction s with
  | report status =>
    cases (coreStep_boundary_report hp hb).symm.trans h
    exact List.suffix_rfl
  | reset => exact history_suffix_resumeReset (s := resetStart s) ((coreStep_boundary_reset hp hb).symm.trans h)
  | entry => exact history_suffix_resumeEntry (s := entryStart s) ((coreStep_boundary_entry hp hb).symm.trans h)
  | fetch =>
    cases hf : fetchOpcode s with
    | done d u =>
      have hrest := history_suffix_decodeAndExec ((coreStep_fetch_done hp hb hf).symm.trans h)
      exact (history_suffix_transact_done hf).trans hrest
    | stopped u =>
      cases (coreStep_fetch_stopped hp hb hf).symm.trans h
      exact history_suffix_transact_stopped hf
    | refused m => cases (coreStep_fetch_refused hp hb hf).symm.trans h

theorem history_suffix_coreStep {s t : State} (h : coreStep s = .next t) : s.history <:+ t.history := by
  cases hp : s.position with
  | boundary => exact history_suffix_coreStep_boundary hp h
  | inTxn q k d =>
    cases q with
    | reset => exact history_suffix_resumeReset ((coreStep_inside_reset hp).symm.trans h)
    | entry => exact history_suffix_resumeEntry ((coreStep_inside_entry hp).symm.trans h)
    | instr =>
      cases k with
      | zero => exact history_suffix_decodeAndExec (s := latchOpcode d s) ((coreStep_inside_fetch hp).symm.trans h)
      | succ k => exact history_suffix_decodeAndExec ((coreStep_inside_instr hp).symm.trans h)

/-! ### Actions of the other contexts -/

theorem history_deactivate (h : Nat) (status : Status) (s : State) : (deactivate h status s).history = s.history :=
  history_updateSched h _ s

theorem history_yieldOther (k : Nat) (s : State) : (yieldOther k s).history = s.history := by
  obtain h | h := yieldOther_cases k s <;> rw [h]
  exact history_deactivate (k + 1) .exhausted s

theorem history_suffix_otherStep {k : Nat} {s t : State} (h : otherStep k s = .next t) : s.history <:+ t.history := by
  obtain ⟨o, -, ⟨status, rfl⟩ | rfl | ⟨x, ⟨e, u, hb, rfl⟩ | ⟨d, u, next, hb, rfl⟩⟩⟩ := otherStep_next h
  · rw [history_deactivate]
  · rw [history_deactivate, updateOther_history]
  · rw [history_deactivate, updateOther_history, history_busCycle_failed hb, updateOther_history]
  · rw [history_yieldOther]
    exact history_suffix_busCycle_answered (s := updateOther k beginOther s) (u := u) hb

/-! ### The driver's calls -/

theorem history_activate (h : Nat) (s : State) : (activate h s).history = s.history :=
  history_updateSched h _ { s with active := some h }

theorem history_resume {h : Nat} {s t : State} (hr : resume h s = .next t) : t.history = s.history := by
  obtain ⟨q, run, -, -, ⟨status, -, rfl⟩ | ⟨-, rfl⟩⟩ := resume_next hr
  · rfl
  · exact history_activate h s

theorem history_lifeCall {h : Nat} {ok : CtxState → Option Misuse} {f : State → State}
    {g : Nat → OtherContext → OtherContext} {s t : State} (hf : (f s).history = s.history)
    (hl : lifeCall h ok f g s = .next t) : t.history = s.history := by
  obtain ⟨q, -, -, ⟨-, rfl⟩ | ⟨k, -, rfl⟩⟩ := lifeCall_next hl
  · exact hf
  · rfl

/-- No call of the driver touches the history, the resets included (R361, log 26). -/
theorem history_driverCall {c : Call} {s t : State} (h : driverCall c s = .next t) : t.history = s.history := by
  obtain hd | ⟨-, ⟨k, -, hr⟩ | ⟨k, -, hl⟩ | ⟨k, -, hl⟩ | ⟨k, -, hl⟩⟩ := driverCall_next h
  · exact (callDuring_collaborated hd).history
  · exact history_resume hr
  · exact history_lifeCall (hardResetCore_history s) hl
  · exact history_lifeCall (softResetCore_history s) hl
  · exact history_lifeCall (abortCore_history s) hl

theorem history_driverStep {s t : State} (h : driverStep s = .next t) : t.history = s.history := by
  obtain ⟨-, rfl⟩ | ⟨c, rest, -, hc⟩ := driverStep_next h
  · rfl
  · exact history_driverCall (s := { s with driver := rest }) hc

/-- Settles O57: transactions add events, of the core or of another context; nothing else touches the history. -/
theorem historyOnlyGrows : Obligations.HistoryOnlyGrows := by
  unfold Obligations.HistoryOnlyGrows
  intro s t h
  unfold step at h
  split at h
  next => exact history_suffix_coreStep h
  next => exact history_suffix_otherStep h
  next => exact (history_driverStep h).symm ▸ List.suffix_rfl

end Sys2Proof.Proofs
end

section
/-! SUPPORT. GrantCycles and Stall (R64, R341): the calls that may be made at any time, by the driver and during a
transaction, with one answer for both callers. -/

namespace Sys2Proof.Proofs

open Sys2Proof.Machine Sys2Proof.Laws

/-! ### Both callers -/

/-- The call is accepted, by the driver and during a transaction, with `t` as the next state. -/
def AcceptedAs (c : Call) (s t : State) : Prop := callDuring c s = .ok t ∧ driverCall c s = .next t

/-- The call is refused as the misuse `m`, by the driver and during a transaction. -/
def RefusedAs (c : Call) (s : State) (m : Misuse) : Prop :=
  callDuring c s = .error m ∧ driverCall c s = .refused (.outOfContract m)

/-- A call that may be made during a transaction may be made by the driver, with the same effect. -/
theorem acceptedAs_of_callDuring {c : Call} {s t : State} (h : callDuring c s = .ok t) : AcceptedAs c s t := by
  refine ⟨h, ?_⟩
  cases c with
  | assertLine source asserted | stall k n | grantCycles k n => simp only [driverCall, h]
  | resume k | hardReset k | softReset k | abort k => cases h

/-- A call that is refused during a transaction, but not because a context is active then, is refused of the driver
too (R334). -/
theorem refusedAs_of_callDuring {c : Call} {s : State} {m : Misuse} (h : callDuring c s = .error m)
    (hm : m ≠ .whileActive) : RefusedAs c s m := by
  refine ⟨h, ?_⟩
  cases c with
  | assertLine source asserted | stall k n | grantCycles k n => simp only [driverCall, h]
  | resume k | hardReset k | softReset k | abort k =>
    cases h
    exact absurd rfl hm

/-! ### A context that exists -/

section
variable {h : Nat} {s : State} {q : Sched} (hq : schedOf h s = some q)
include hq

/-- R64: `Stall` of any context, in whatever state it is. -/
theorem stall_accepted (n : Nat) : AcceptedAs (.stall h n) s (updateSched h (Sched.stall n) s) :=
  acceptedAs_of_callDuring (by simp only [callDuring, hq, Option.isSome_some, if_true])

/-- R341: `GrantCycles` of any context, in whatever state it is. -/
theorem grantCycles_accepted {n : Int} (hn : 0 ≤ n) :
    AcceptedAs (.grantCycles h n) s (updateSched h (Sched.grant n) s) :=
  acceptedAs_of_callDuring (by simp only [callDuring, hq, Option.isSome_some, if_true, if_neg (not_lt.mpr hn)])

end

/-! ### Misuses -/

/-- R334: a negative grant, whether the context exists or not. -/
theorem grantCycles_negative (h : Nat) {n : Int} (s : State) (hn : n < 0) :
    RefusedAs (.grantCycles h n) s .negativeGrant :=
  refusedAs_of_callDuring (if_pos hn) nofun

section
variable {h : Nat} {s : State} (hq : schedOf h s = none)
include hq

theorem stall_unknown (n : Nat) : RefusedAs (.stall h n) s .unknownContext :=
  refusedAs_of_callDuring (by simp [callDuring, hq]) nofun

theorem grantCycles_unknown {n : Int} (hn : 0 ≤ n) : RefusedAs (.grantCycles h n) s .unknownContext :=
  refusedAs_of_callDuring (by simp [callDuring, hq, not_lt.mpr hn]) nofun

end

theorem schedOf_none {s : State} {k : Nat} (hk : s.others.length ≤ k) : schedOf (k + 1) s = none := by
  simp only [schedOf, List.getElem?_eq_none hk, Option.map_none]

/-- Settles O48: the scheduler state of the context named is updated, the core's or another's. -/
theorem grantsAndStallsAreAdditive : Obligations.GrantsAndStallsAreAdditive := by
  unfold Obligations.GrantsAndStallsAreAdditive
  intro s n m granted stalled
  obtain ⟨hstall, hstallDriver⟩ := stall_accepted (schedOf_core s) m
  refine ⟨grantCycles_accepted (schedOf_core s), hstall, hstallDriver, ?other, ?negative, ?unknown⟩
  case other =>
    intro k o ho grantedOther stalledOther
    have hgrant := grantCycles_accepted (n := n) (schedOf_other ho)
    have hstall := stall_accepted (schedOf_other ho) m
    rw [updateSched_other_eq_set _ ho] at hgrant hstall
    exact ⟨hgrant, hstall⟩
  case negative => exact fun h => grantCycles_negative h s
  case unknown => exact fun k hk => ⟨grantCycles_unknown (schedOf_none hk), stall_unknown (schedOf_none hk) m⟩

end Sys2Proof.Proofs
end

section
/-! SUPPORT. The opcode map read both ways (R97, R100): every byte is the opcode of the instruction it decodes to, and a
stored instruction decodes to itself. -/

namespace Sys2Proof.Proofs

open Sys2Proof.Laws

/-! ### The opcode map -/

/-- If the part `l` of the map lists the opcodes below `n` in order and the row `row` the sixteen from `n` on, then `l ++ row`
lists those below `n + 16`. -/
theorem map_encodeOpcode_append_row {l row : List Instr} {n : Nat}
    (hl : l.map encodeOpcode = (List.range n).map (BitVec.ofNat 8))
    (hrow : row.map encodeOpcode = (List.range' n 16).map (BitVec.ofNat 8)) :
    (l ++ row).map encodeOpcode = (List.range (n + 16)).map (BitVec.ofNat 8) := by
  have hrange : List.range n ++ List.range' n 16 = List.range (n + 16) := by
    simpa only [List.range_eq_range', Nat.zero_add] using List.range'_append_1 (s := 0) (m := n) (n := 16)
  rw [List.map_append, hl, hrow, ← List.map_append, hrange]

/-- R97: the map lists the instructions in the order of their opcodes, as each of its rows does. -/
theorem map_encodeOpcode_opcodeMap : opcodeMap.map encodeOpcode = (List.range 256).map (BitVec.ofNat 8) :=
  have row0 : opcodeRow0.map encodeOpcode = (List.range 16).map (BitVec.ofNat 8) := rfl
  have next := @map_encodeOpcode_append_row
  next (next (next (next (next (next (next (next (next (next (next (next (next (next (next row0
    rfl) rfl) rfl) rfl) rfl) rfl) rfl) rfl) rfl) rfl) rfl) rfl) rfl) rfl) rfl

/-- R100: every byte is an opcode, that of the instruction at its place of the map. -/
theorem encodeOpcode_decodeOpcode (b : Byte) : encodeOpcode (decodeOpcode b) = b := by
  have hplace : b.toNat < opcodeMap.length := opcodeMap_length ▸ b.isLt
  have hcode : (opcodeMap.map encodeOpcode)[b.toNat]? = ((List.range 256).map (BitVec.ofNat 8))[b.toNat]? :=
    congrArg (·[b.toNat]?) map_encodeOpcode_opcodeMap
  rw [List.getElem?_map, List.getElem?_map, List.getElem?_eq_getElem hplace, List.getElem?_range b.isLt] at hcode
  calc encodeOpcode (decodeOpcode b)
    _ = BitVec.ofNat 8 b.toNat := Option.some.inj hcode
    _ = b := (BitVec.ofNat_toNat 8 b).trans (BitVec.setWidth_eq b)

/-- Every instruction stands in the map at the place of its opcode, row by row (R97). -/
theorem decodeOpcode_encodeOpcode (i : Instr) : decodeOpcode (encodeOpcode i) = i := by
  cases i <;> rfl

/-- Settles O33: decoding and encoding an opcode are inverse to each other. -/
theorem opcodeDecodingIsTotalAndInjective : Obligations.OpcodeDecodingIsTotalAndInjective :=
  ⟨encodeOpcode_decodeOpcode, decodeOpcode_encodeOpcode⟩

/-- Settles O35: the opcode fixes the format, so the operand bytes end where the bytes after them begin. -/
theorem storedInstructionsRoundTrip : Obligations.StoredInstructionsRoundTrip :=
  fun i => roundTrip_of_opcode (decodeOpcode_encodeOpcode i)

/-! ### Three bytes hold an instruction -/

/-- R90: an instruction has at most three bytes. -/
theorem operandBytes_le_two (i : Instr) : i.operandBytes ≤ 2 := by
  unfold Instr.operandBytes
  cases i.mode <;> decide

/-- Three bytes always begin with a stored instruction, that of the first of them. -/
theorem decode_three (op b c : Byte) :
    decode [op, b, c] =
      .ok (⟨decodeOpcode op, [b, c].take (decodeOpcode op).operandBytes⟩,
        [b, c].drop (decodeOpcode op).operandBytes) :=
  if_pos (operandBytes_le_two (decodeOpcode op))

/-- A word of the opcode table decodes by its lowest byte. -/
theorem decodeTableWord_eq (nbits w : Nat) :
    decodeTableWord nbits w = some (decodeOpcode (BitVec.ofNat 8 (w % 2 ^ nbits))) := by
  simp only [decodeTableWord, wordBytes, decode_three]

/-- The opcode alone, as a word of eight bits, decodes to its instruction. -/
theorem decodeTableWord_encodeOpcode (i : Instr) : decodeTableWord 8 (encodeOpcode i).toNat = some i := by
  rw [decodeTableWord_eq, Nat.mod_eq_of_lt (encodeOpcode i).isLt, BitVec.ofNat_toNat,
    BitVec.setWidth_eq, decodeOpcode_encodeOpcode]

/-- Settles O34: each word is the opcode of the instruction named. -/
theorem sampleWordsDecodeToTheirInstruction : Obligations.SampleWordsDecodeToTheirInstruction :=
  have h := decodeTableWord_encodeOpcode
  ⟨h .brk, h .ldaImm, h .staZp, h .aslAcc, h .jmpInd, h .jsr, h .beq, h .plp, h .cli, h .nop, h .sloIzx, h .shx,
    h .nopAbxFC, h .jamF2⟩

end Sys2Proof.Proofs
end

section
/-! SUPPORT. The opcode fetch at an instruction boundary (R99, R318), written out on plain memory. -/

namespace Sys2Proof.Proofs

open Sys2Proof.Machine Sys2Proof.Safety Sys2Proof.Laws

/-- R318: a running core with no reset or interrupt due fetches. -/
theorem boundaryAction_fetch {s : State} (hrun : s.run = .running) (hreset : s.resetReq = .none)
    (hint : s.intPending = false) : boundaryAction s = .fetch := by
  simp only [boundaryAction, hrun, hreset, hint, Bool.false_eq_true, if_false]

/-- The core after a read of plain memory at `a` that polled and did not use up the budget (R61). -/
def afterRead (a : Word) (s : State) : State :=
  { poll s with
    sched := ⟨s.sched.budget - s.sched.stallPending - 1, s.sched.clock + s.sched.stallPending + 1, 0, s.sched.ctx⟩
    history := ⟨0, s.sched.clock + s.sched.stallPending, .read, a, peek s a⟩ :: s.history }

/-- A read of plain memory is done when the budget covers it, the pending stall cycles and more (R61). -/
theorem transact_read_done {s : State} (hplain : s.devices = []) (hpolls : s.suspend = false)
    (hbudget : 1 + s.sched.stallPending < s.sched.budget) (q : SeqKind) (k : Nat) (a : Word) :
    transact q k false (readTxn a) s = .done (peek s a) (afterRead a s) := by
  have hread := (transactionAccountsRecordsAndYields q k false a 0 s hplain).1
  simp only [hpolls, Bool.or_self, Bool.false_eq_true, if_false] at hread
  rw [hread, if_pos (by omega), afterRead]

/-- The state in which the instruction at PC starts, its opcode fetched from plain memory (R99). -/
def fetched (s : State) : State := latchOpcode (peek s s.pc) (afterRead s.pc s)

/-- The opcode fetch latches IR, moves PC past the opcode, performs one read and changes nothing else; the latches of the
sequences, which it does not touch, are left out of the comparison. -/
theorem follows_fetched {s : State} (hwf : Memory.wf s.mem = true) :
    Follows ⟨[rd s s.pc], regs s, s.pc + 1, s.p.i, s.opr, some s.ea⟩
      { s with ir := (fetched s).ir, latch := Latches.clear } { fetched s with latch := Latches.clear } where
  registers := rfl
  pc := rfl
  opr := rfl
  ea := fun _ h => Option.some.inj h
  resetReq := rfl
  performed := ⟨rfl, rfl, fun _ => rfl, hwf⟩
  sampled := ⟨rfl, rfl, rfl, rfl⟩
  untouched := by constructor <;> rfl

/-- Settles O36: the boundary's action is the fetch, and the first of the bytes at PC fixes the instruction. -/
theorem stepRunsTheDecodedInstruction : Obligations.StepRunsTheDecodedInstruction := by
  unfold Obligations.StepRunsTheDecodedInstruction
  intro s w rest hactive hrun hreset hint hboundary hplain hpolls hwf hbudget hdecode
  have hinstr : decodeOpcode (peek s s.pc) = w.instr := by
    rw [decode_three] at hdecode
    cases hdecode
    rfl
  have hfetch : fetchOpcode s = .done (peek s s.pc) (afterRead s.pc s) :=
    transact_read_done hplain hpolls hbudget .instr 0 s.pc
  have hstep : step s = decodeAndExec (fetched s) :=
    (step_core hactive).trans (coreStep_fetch_done hboundary (boundaryAction_fetch hrun hreset hint) hfetch)
  refine ⟨fetched s, ?_, rfl, hinstr, follows_fetched hwf, rfl⟩
  calc step s
    _ = exec (decodeOpcode (peek s s.pc)) (fetched s) := hstep
    _ = exec w.instr (fetched s) := by rw [hinstr]

end Sys2Proof.Proofs
end

section
/-! SUPPORT. What a step can be refused for (R333, R334): a call out of contract, and nothing else while the retained
position is one that its sequence has. -/

namespace Sys2Proof.Proofs

open Sys2Proof.Machine Sys2Proof.Safety Sys2Proof.Laws

/-- A result that is a refusal only for a call out of contract (R334). -/
def OnlyContract (r : Result) : Prop := ∀ e, r = .refused e → ∃ m, e = .outOfContract m

theorem onlyContract_next (s : State) : OnlyContract (.next s) := nofun

theorem onlyContract_outOfContract (m : Misuse) : OnlyContract (.refused (.outOfContract m)) := by
  rintro _ ⟨⟩
  exact ⟨m, rfl⟩

/-! ### Actions of the core -/

/-- From its start a sequence is refused only for a collaborator's call. -/
theorem onlyContract_runFrom {q : SeqKind} : ∀ (lines : List Micro) (k : Nat) (s : State),
    OnlyContract (runFrom q k lines s)
  | [], _, s => onlyContract_next (finish s)
  | m :: rest, k, s => by
    rw [runFrom_cons]
    split
    next e _ => exact onlyContract_outOfContract e
    next u _ => exact onlyContract_next u
    next d u _ =>
      split
      next => exact onlyContract_next _
      next => exact onlyContract_runFrom rest (k + 1) _

/-- From a retained position that it has, too: the lines from there on are not empty. -/
theorem onlyContract_runSeq {q : SeqKind} {first : Nat} {lines : List Micro} {s : State}
    (hp : ∀ q' k d, s.position = .inTxn q' k d → q' = q ∧ first ≤ k ∧ k < first + lines.length) :
    OnlyContract (runSeq q first lines s) := by
  cases hpos : s.position with
  | boundary =>
    rw [runSeq_boundary hpos]
    exact onlyContract_runFrom lines first s
  | inTxn q' k d =>
    obtain ⟨rfl, hfirst, hk⟩ := hp q' k d hpos
    rw [runSeq_retained hpos hfirst (List.drop_eq_getElem_cons (by omega))]
    split
    next => exact onlyContract_next _
    next => exact onlyContract_runFrom _ (k + 1) _

/-- An instruction that starts, or goes on from a transaction after its opcode fetch that the map gives it (R97). -/
theorem onlyContract_exec {i : Instr} {s : State}
    (hp : ∀ q k d, s.position = .inTxn q k d → q = .instr ∧ 1 ≤ k ∧ k < maxCount i) : OnlyContract (exec i s) := by
  obtain ⟨-, hjam⟩ | ⟨lines, -, hlen, he⟩ := exec_shape i
  · rw [hjam]
    exact onlyContract_next _
  · rw [he]
    refine onlyContract_runSeq fun q k d hpos => ?_
    obtain ⟨hq, h1, hk⟩ := hp q k d hpos
    exact ⟨hq, h1, by omega⟩

/-- The instruction of an opcode that has just been latched starts at a boundary. -/
theorem onlyContract_decodeAndExec_latchOpcode (d : Byte) (s : State) :
    OnlyContract (decodeAndExec (latchOpcode d s)) :=
  onlyContract_exec nofun

theorem onlyContract_resumeEntry {s : State} (hp : ∀ q k d, s.position = .inTxn q k d → q = .entry ∧ k < 7) :
    OnlyContract (resumeEntry s) :=
  onlyContract_runSeq fun q k d hpos => ⟨(hp q k d hpos).1, Nat.zero_le k, (hp q k d hpos).2⟩

theorem onlyContract_resumeReset {s : State} (hp : ∀ q k d, s.position = .inTxn q k d → q = .reset ∧ k < 7) :
    OnlyContract (resumeReset s) :=
  onlyContract_runSeq fun q k d hpos => ⟨(hp q k d hpos).1, Nat.zero_le k, (hp q k d hpos).2⟩

/-- At a boundary every action starts from the first line of its sequence (R318). -/
theorem onlyContract_coreStep_boundary {s : State} (hp : s.position = .boundary) : OnlyContract (coreStep s) := by
  cases hb : boundaryAction s with
  | report status =>
    rw [coreStep_boundary_report hp hb]
    exact onlyContract_next _
  | reset =>
    rw [coreStep_boundary_reset hp hb]
    exact onlyContract_resumeReset fun _ _ _ hpos => nomatch hp.symm.trans hpos
  | entry =>
    rw [coreStep_boundary_entry hp hb]
    exact onlyContract_resumeEntry fun _ _ _ hpos => nomatch hp.symm.trans hpos
  | fetch =>
    cases hf : fetchOpcode s with
    | done d u =>
      rw [coreStep_fetch_done hp hb hf]
      exact onlyContract_decodeAndExec_latchOpcode d u
    | stopped u =>
      rw [coreStep_fetch_stopped hp hb hf]
      exact onlyContract_next u
    | refused m =>
      rw [coreStep_fetch_refused hp hb hf]
      exact onlyContract_outOfContract m

/-- A retained position of the invariant is one that its sequence has (R33, R120). -/
theorem onlyContract_coreStep {s : State} (hi : PositionOk s) : OnlyContract (coreStep s) := by
  cases hp : s.position with
  | boundary => exact onlyContract_coreStep_boundary hp
  | inTxn q k d =>
    have hk : HasTxn s.ir q k := positionOk_iff.mp hi q k d hp
    cases q with
    | reset =>
      rw [coreStep_inside_reset hp]
      refine onlyContract_resumeReset fun q' k' d' hpos => ?_
      cases hp.symm.trans hpos
      exact ⟨rfl, hk⟩
    | entry =>
      rw [coreStep_inside_entry hp]
      refine onlyContract_resumeEntry fun q' k' d' hpos => ?_
      cases hp.symm.trans hpos
      exact ⟨rfl, hk⟩
    | instr =>
      cases k with
      | zero =>
        rw [coreStep_inside_fetch hp]
        exact onlyContract_decodeAndExec_latchOpcode d s
      | succ k =>
        rw [coreStep_inside_instr hp]
        refine onlyContract_exec fun q' k' d' hpos => ?_
        cases hp.symm.trans hpos
        exact ⟨rfl, Nat.succ_pos k, hk.resolve_left (Nat.succ_ne_zero k)⟩

/-! ### The driver's calls -/

theorem onlyContract_resume (h : Nat) (s : State) : OnlyContract (resume h s) := by
  unfold resume
  split
  next =>
    split
    next m _ => exact onlyContract_outOfContract m
    next => exact onlyContract_next _
    next => exact onlyContract_next _
  next => exact onlyContract_outOfContract _

theorem onlyContract_lifeCall (h : Nat) (ok : CtxState → Option Misuse) (f : State → State)
    (g : Nat → OtherContext → OtherContext) (s : State) : OnlyContract (lifeCall h ok f g s) := by
  unfold lifeCall
  split
  next => exact onlyContract_outOfContract _
  next =>
    split
    next m _ => exact onlyContract_outOfContract m
    next => split <;> exact onlyContract_next _

theorem onlyContract_whenNoneActive {r : Result} (hr : OnlyContract r) (s : State) :
    OnlyContract (whenNoneActive r s) := by
  unfold whenNoneActive
  split
  next => exact hr
  next => exact onlyContract_outOfContract _

theorem onlyContract_driverCall (c : Call) (s : State) : OnlyContract (driverCall c s) := by
  cases c with
  | assertLine | stall | grantCycles =>
    unfold driverCall
    dsimp only
    split
    next => exact onlyContract_next _
    next m _ => exact onlyContract_outOfContract m
  | resume h => exact onlyContract_whenNoneActive (onlyContract_resume h s) s
  | hardReset | softReset | abort => exact onlyContract_whenNoneActive (onlyContract_lifeCall _ _ _ _ s) s

theorem onlyContract_driverStep (s : State) : OnlyContract (driverStep s) := by
  unfold driverStep
  split
  next => exact onlyContract_next s
  next => exact onlyContract_driverCall _ _

/-- Settles O56: whoever the arbiter lets act, the step is refused only for a call out of contract (R333, R340). -/
theorem retainedPositionsCanAlwaysContinue : Obligations.RetainedPositionsCanAlwaysContinue := by
  unfold Obligations.RetainedPositionsCanAlwaysContinue
  intro s hi hrefused
  have hstep : OnlyContract (step s) := by
    unfold step
    split
    next => exact onlyContract_coreStep hi.position
    next => exact fun _ => otherStep_refused
    next => exact onlyContract_driverStep s
  obtain ⟨m, hm⟩ := hstep _ hrefused
  cases hm

end Sys2Proof.Proofs
end

section
/-! SUPPORT. How many transactions a sequence makes on plain memory with budget left, from the state after each of its
lines (R61, R120), and that every instruction makes those of the opcode map (R97, R127, R134, R230). -/

namespace Sys2Proof.Proofs

open Sys2Proof.Machine Sys2Proof.Safety Sys2Proof.Laws

/-! ### One line on plain memory -/

/-- The core at step e of a transaction that plain memory answered and that did not use up the budget (R61). -/
def afterTxn (sus : Bool) (t : Txn) (s : State) : State :=
  { s with
    nmiPrev := (polled sus s).nmiPrev
    nmiPending := (polled sus s).nmiPending
    intPending := (polled sus s).intPending
    intVector := (polled sus s).intVector
    suspend := false
    position := .boundary
    sched := (s.sched.account (s.sched.due t.dir)).tick
    mem := plainMem t s
    history := ⟨0, s.sched.clock + s.sched.due t.dir, t.dir, t.addr, plainData t s⟩ :: s.history }

/-- The core after a line of a sequence: its transaction, answered by plain memory, then its register updates (R13). -/
def afterLine (m : Micro) (s : State) : State :=
  m.after (plainData (m.txn s) s) (afterTxn (m.sus s) (m.txn s) s)

theorem plainData_accounted (sus : Bool) (t x : Txn) (s : State) : plainData x (accounted sus t s) = plainData x s := by
  simp only [plainData, peek_accounted]

theorem plainMem_accounted (sus : Bool) (t x : Txn) (s : State) : plainMem x (accounted sus t s) = plainMem x s := by
  simp only [plainMem, accounted_mem]

theorem stepE_performed (sus : Bool) (t : Txn) (s : State) :
    stepE (performed t (plainData t s) { accounted sus t s with mem := plainMem t s }) = afterTxn sus t s := by
  simp only [performed, accounted, afterTxn, polled]
  split <;> rfl

/-- A transaction of plain memory is done when the budget covers it, the stall cycles due and more (R61). -/
theorem transact_plain_done (q : SeqKind) (k : Nat) {sus : Bool} {t : Txn} {s : State} (hplain : s.devices = [])
    (hbank : t.bank = 0) (hbudget : s.sched.due t.dir + 1 < s.sched.budget) :
    ∃ u, transact q k sus t s = .done (plainData t s) u ∧ stepE u = afterTxn sus t s := by
  have hr := resolve_plain (s := accounted sus t s) ((toDevice_accounted sus t s t).trans (toDevice_plain hbank hplain))
  rw [plainData_accounted, plainMem_accounted] at hr
  refine ⟨_, (transact_of_answered q k hr).trans (if_pos ?_), stepE_performed sus t s⟩
  show (0 : Int) < ((accounted sus t s).sched.tick).budget
  rw [accounted_sched]
  show (0 : Int) < s.sched.budget - s.sched.due t.dir - 1
  omega

/-- A sequence whose first line is on plain memory, with budget left, ends after it or goes on. -/
theorem runFrom_cons_plain (q : SeqKind) (k : Nat) {m : Micro} (rest : List Micro) {s : State} (hm : Plain m)
    (hplain : s.devices = []) (hbudget : s.sched.due (m.txn s).dir + 1 < s.sched.budget) :
    runFrom q k (m :: rest) s =
      if m.ends (afterLine m s) then .next (finish (afterLine m s)) else runFrom q (k + 1) rest (afterLine m s) := by
  obtain ⟨u, hdone, hu⟩ := transact_plain_done q k (sus := m.sus s) hplain (hm.bank s) hbudget
  rw [runFrom_cons_of_done hdone, goOn, hu, afterLine]

/-! ### The clock along a sequence -/

/-- Plain memory, and budget that the pending stall cycles and `n` transactions do not use up. -/
structure Covers (n : Nat) (s : State) : Prop where
  plain : s.devices = []
  budget : n + s.sched.stallPending < s.sched.budget

theorem due_le (d : Dir) (q : Sched) : q.due d ≤ q.stallPending := by
  cases d with
  | read => exact Nat.le_refl _
  | write => exact Nat.zero_le _

section
variable {m : Micro} {s : State} (hm : Plain m)
include hm

theorem afterLine_sched : (afterLine m s).sched = (s.sched.account (s.sched.due (m.txn s).dir)).tick :=
  (hm.after _ _).sched

/-- Each line makes one transaction: it uses up one cycle, and stall cycles go from the pending ones to the clock. -/
theorem Covers.afterLine {n : Nat} (h : Covers (n + 1) s) : Covers n (afterLine m s) where
  plain := (hm.after _ _).devices.trans h.plain
  budget := by
    rw [afterLine_sched hm]
    have hb := h.budget
    have hd := due_le (m.txn s).dir s.sched
    simp only [Sched.tick, Sched.account]
    omega

theorem afterLine_clock : (afterLine m s).sched.clock + (afterLine m s).sched.stallPending =
    s.sched.clock + s.sched.stallPending + 1 := by
  rw [afterLine_sched hm]
  have hd := due_le (m.txn s).dir s.sched
  simp only [Sched.tick, Sched.account]
  omega

/-- The first read accounts for all pending stall cycles (R64), and none come up on plain memory. -/
theorem afterLine_stall (h : (m.txn s).dir = .read ∨ s.sched.stallPending = 0) :
    (afterLine m s).sched.stallPending = 0 := by
  rw [afterLine_sched hm]
  obtain hread | hstall := h
  · simp only [hread, Sched.due, Sched.account, Sched.tick, Nat.sub_self]
  · simp only [hstall, Sched.account, Sched.tick, Nat.zero_sub]

end

/-- How many transactions the lines of a sequence make on plain memory with budget left. -/
def txnCount : List Micro → State → Nat
  | [], _ => 0
  | m :: rest, s => if m.ends (afterLine m s) then 1 else txnCount rest (afterLine m s) + 1

/-- `r` ends a sequence that made `n` transactions from `s` on, the pending stall cycles accounted. -/
def Makes (n : Nat) (s : State) (r : Result) : Prop :=
  ∃ t, r = .next t ∧ t.sched.clock = s.sched.clock + s.sched.stallPending + n

theorem makes_finish {s : State} (h : s.sched.stallPending = 0) : Makes 0 s (.next (finish s)) :=
  ⟨_, rfl, by simp only [finish_sched, h, Nat.add_zero]⟩

theorem Makes.succ {n : Nat} {s u : State} {r : Result} (h : Makes n u r)
    (hu : u.sched.clock + u.sched.stallPending = s.sched.clock + s.sched.stallPending + 1) : Makes (n + 1) s r := by
  obtain ⟨t, ht, hclock⟩ := h
  exact ⟨t, ht, by omega⟩

/-- A sequence that starts with a read, or with no stall cycles pending, makes the transactions counted. -/
theorem makes_runFrom {q : SeqKind} : ∀ {lines : List Micro} {k : Nat} {s : State}, AllPlain lines →
    Covers lines.length s →
    (s.sched.stallPending = 0 ∨ ∃ m, lines.head? = some m ∧ (m.txn s).dir = .read) →
    Makes (txnCount lines s) s (runFrom q k lines s)
  | [], k, s, _, _, hstall => makes_finish (hstall.resolve_right (by simp))
  | m :: rest, k, s, hl, hc, hstall => by
    obtain ⟨hm, hrest⟩ := List.forall_mem_cons.mp hl
    have hstall' : (afterLine m s).sched.stallPending = 0 := by
      refine afterLine_stall hm (hstall.symm.imp_left ?_)
      rintro ⟨_, ⟨⟩, hread⟩
      exact hread
    have hbudget : s.sched.due (m.txn s).dir + 1 < s.sched.budget := by
      have hb := hc.budget
      have hd := due_le (m.txn s).dir s.sched
      simp only [List.length_cons] at hb
      omega
    rw [runFrom_cons_plain q k rest hm hc.plain hbudget, txnCount]
    split
    next => exact (makes_finish hstall').succ (afterLine_clock hm)
    next => exact (makes_runFrom hrest (hc.afterLine hm) (.inl hstall')).succ (afterLine_clock hm)

/-! ### The counts of the sequences that do not all have one length -/

/-- R127: the index add leaves the page exactly when the low byte of the sum carries out. -/
theorem append_add_bne (hi lo i : Byte) : (hi ++ (lo + i) != hi ++ lo + i.setWidth 16) = carryOut lo i := by
  have happend : ∀ b : Byte, (hi ++ b).toNat = hi.toNat * 256 + b.toNat := fun b => by
    rw [BitVec.toNat_append, ← Nat.shiftLeft_add_eq_or_of_lt b.isLt, Nat.shiftLeft_eq]
  have hne : hi ++ (lo + i) ≠ hi ++ lo + i.setWidth 16 ↔ 256 ≤ lo.toNat + i.toNat := by
    rw [Ne, ← BitVec.toNat_inj, happend, BitVec.toNat_add, BitVec.toNat_add, happend, BitVec.toNat_setWidth]
    omega
  rw [carryOut, Bool.eq_iff_iff, bne_iff_ne, decide_eq_true_iff, hne]

theorem crossed_absoluteX (s : State) : crossed .absoluteX s = carryOut (b2 s) s.x := append_add_bne _ _ _

theorem crossed_absoluteY (s : State) : crossed .absoluteY s = carryOut (b2 s) s.y := append_add_bne _ _ _

theorem crossed_indirectIndexed (s : State) :
    crossed .indirectIndexed s = carryOut (peek s (zp (b2 s))) s.y := append_add_bne _ _ _

theorem fixPage_latch (s : State) : (fixPage s).latch = s.latch := by
  unfold fixPage
  split <;> rfl

/-- The first line of the read-class end of an indexed mode: the read at the tentative address (R127, R131). -/
def readTentative (op : ReadOp) : Micro where
  txn := fun s => readTxn s.ea
  after := fun d s => if s.latch.c then fixPage { s with opr := d } else op d { s with opr := d }
  ends := fun s => !s.latch.c

theorem readIndexed_eq (op : ReadOp) : readIndexed op = readTentative op :: readEa op := rfl

/-- An operation on the operand that leaves the latches of its sequence alone. -/
def KeepsLatch (op : ReadOp) : Prop := ∀ d s, (op d s).latch = s.latch

theorem afterLine_readTentative_latch {op : ReadOp} (hop : KeepsLatch op) (s : State) :
    (afterLine (readTentative op) s).latch = s.latch := by
  simp only [afterLine, readTentative]
  split
  next => exact fixPage_latch _
  next => exact hop _ _

/-- R127, R131: the second read of a read-class end happens only when the page was crossed. -/
theorem txnCount_readIndexed {op : ReadOp} (hop : KeepsLatch op) (s : State) :
    txnCount (readIndexed op) s = if s.latch.c then 2 else 1 := by
  have hends : (readTentative op).ends (afterLine (readTentative op) s) = !s.latch.c :=
    congrArg (fun l : Latches => !l.c) (afterLine_readTentative_latch hop s)
  have hreadEa : txnCount (readEa op) (afterLine (readTentative op) s) = 1 := rfl
  rw [readIndexed_eq, txnCount, hends, hreadEa]
  cases s.latch.c <;> rfl

theorem lo8_writeLo (w : Word) (v : Byte) : lo8 (writeLo w v) = v := lo8_word _ v

/-- An index register keeps its value where X and Y keep theirs. -/
def IsIndex (idx : Index) : Prop := ∀ s u : State, u.x = s.x → u.y = s.y → idx u = idx s

theorem isIndex_indexX : IsIndex indexX := fun _ _ hx _ => hx

theorem isIndex_indexY : IsIndex indexY := fun _ _ _ hy => hy

/-- R127: a read of an absolute indexed mode. -/
theorem txnCount_absoluteIndexedRead {idx : Index} {op : ReadOp} (hidx : IsIndex idx) (hop : KeepsLatch op)
    (s : State) : txnCount (absoluteIndexedRead idx op) s = if carryOut (b2 s) (idx s) then 4 else 3 := by
  obtain ⟨u, hu, hcount⟩ : ∃ u : State, u.latch.c = carryOut (b2 s) (idx s) ∧
      txnCount (absoluteIndexedRead idx op) s = txnCount (readIndexed op) u + 2 := by
    refine ⟨_, ?_, rfl⟩
    show carryOut (lo8 (writeLo s.ea (b2 s))) (idx _) = carryOut (b2 s) (idx s)
    rw [lo8_writeLo]
    exact congrArg _ (hidx s _ rfl rfl)
  rw [hcount, txnCount_readIndexed hop, hu]
  split <;> rfl

/-- R131: a read of the mode (zp),Y. -/
theorem txnCount_indirectIndexedRead {op : ReadOp} (hop : KeepsLatch op) (s : State) :
    txnCount (indirectIndexedRead op) s = if carryOut (peek s (zp (b2 s))) s.y then 5 else 4 := by
  obtain ⟨u, hu, hcount⟩ : ∃ u : State, u.latch.c = carryOut (peek s (zp (b2 s))) s.y ∧
      txnCount (indirectIndexedRead op) s = txnCount (readIndexed op) u + 3 := by
    refine ⟨_, ?_, rfl⟩
    show carryOut (peek s (zeroPage (b2 s))) s.y = _
    rw [zeroPage_eq]
  rw [hcount, txnCount_readIndexed hop, hu]
  split <;> rfl

/-- R230: T3 of a branch that is taken, T4 of one that is taken to another page. -/
theorem txnCount_branch (cond : Flags → Bool) (s : State) :
    txnCount (branch cond) s = if cond s.p then (if branchCrosses s then 3 else 2) else 1 := by
  have hcross : (hi8 (branchTarget s) != hi8 (s.pc + 1)) = branchCrosses s := by
    rw [hi8_eq_extract, hi8_eq_extract, branchCrosses]
  show (if (!cond s.p) = true then 1
    else (if (!(hi8 (branchTarget s) != hi8 (s.pc + 1))) = true then 1 else 2) + 1) = _
  rw [hcross]
  cases cond s.p <;> cases branchCrosses s <;> rfl

/-! ### The counts of the opcode map -/

theorem baseCount_le (i : Instr) : baseCount i ≤ 8 := by
  cases i <;> decide

theorem extraCount_readOnly {i : Instr} (hi : i.accessClass = .readOnly) (s : State) :
    extraCount i s = if crossed i.mode s then 1 else 0 := by
  simp only [extraCount, hi]

/-- R127: only the indexed modes have a tentative address of their own. -/
theorem crossed_of_not_indexed {m : Mode} (hm : indexed m = false) (s : State) : crossed m s = false := by
  cases m with
  | absoluteX | absoluteY | indirectIndexed => cases hm
  | _ => exact bne_self_eq_false _

/-- R97, R134: an instruction that the map allows no more than its base count never takes more. -/
theorem extraCount_eq_zero {i : Instr} (hmax : maxCount i = baseCount i) (s : State) : extraCount i s = 0 := by
  cases hclass : i.accessClass with
  | readOnly =>
    have hm : indexed i.mode = false := by simpa [maxCount, hclass] using hmax
    rw [extraCount_readOnly hclass, crossed_of_not_indexed hm]
    rfl
  | branch => simp [maxCount, hclass] at hmax
  | _ => simp only [extraCount, hclass]

/-- The claim about one instruction, with the pending stall cycles accounted: it makes the transactions after its opcode
fetch that the map gives it. -/
def MakesTableCount (i : Instr) : Prop :=
  ∀ s, Ready s → ∃ n, n + 1 = baseCount i + extraCount i s ∧ Makes n s (exec i s)

/-- An instruction whose second transaction is a read, by the count of its lines. -/
theorem makesTableCount_of_txnCount {i : Instr} {lines : List Micro} (he : ∀ s, exec i s = runInstr lines s)
    (hl : AllPlain lines) (hlen : lines.length ≤ 7)
    (hcount : ∀ s, txnCount lines s + 1 = baseCount i + extraCount i s)
    (hread : ∀ s, lines.head?.map (fun m => (m.txn s).dir) = some .read := by intros; rfl) : MakesTableCount i := by
  intro s hs
  refine ⟨txnCount lines s, hcount s, ?_⟩
  have hb := hs.budget
  rw [he, runInstr, runSeq_boundary hs.boundary]
  exact makes_runFrom hl ⟨hs.plain, by omega⟩ (.inr (Option.map_eq_some_iff.mp (hread s)))

/-- R134: an instruction whose lines all run makes the base count, whatever the operands. Of lines that are written out
the last four hypotheses hold by evaluating them. -/
theorem makesTableCount_of_length {i : Instr} {lines : List Micro} (he : ∀ s, exec i s = runInstr lines s)
    (hl : AllPlain lines)
    (hall : ∀ s, txnCount lines s = lines.length := by intros; rfl)
    (hlen : lines.length + 1 = baseCount i := by rfl) (hmax : maxCount i = baseCount i := by rfl)
    (hread : ∀ s, lines.head?.map (fun m => (m.txn s).dir) = some .read := by intros; rfl) : MakesTableCount i := by
  have hle := baseCount_le i
  refine makesTableCount_of_txnCount he hl (by omega) (fun s => ?_) hread
  rw [hall, hlen, extraCount_eq_zero hmax, Nat.add_zero]

/-- R127: a read of an absolute indexed mode takes one more transaction when the page is crossed. -/
theorem makesTableCount_absoluteIndexedRead {i : Instr} {idx : Index} {op : ReadOp}
    (he : ∀ s, exec i s = runInstr (absoluteIndexedRead idx op) s) (hclass : i.accessClass = .readOnly)
    (hbase : baseCount i = 4) (hidx : IsIndex idx) (hcross : ∀ s, crossed i.mode s = carryOut (b2 s) (idx s))
    (hop : PlainOp op) (hlatch : KeepsLatch op) : MakesTableCount i := by
  refine makesTableCount_of_txnCount he (allPlain_absoluteIndexedRead idx hop) (show 4 ≤ 7 by decide) fun s => ?_
  rw [txnCount_absoluteIndexedRead hidx hlatch, hbase, extraCount_readOnly hclass, hcross]
  split <;> rfl

/-- R131: so does a read of the mode (zp),Y. -/
theorem makesTableCount_indirectIndexedRead {i : Instr} {op : ReadOp}
    (he : ∀ s, exec i s = runInstr (indirectIndexedRead op) s) (hclass : i.accessClass = .readOnly)
    (hmode : i.mode = .indirectIndexed) (hbase : baseCount i = 5)
    (hop : PlainOp op) (hlatch : KeepsLatch op) : MakesTableCount i := by
  refine makesTableCount_of_txnCount he (allPlain_indirectIndexedRead hop) (show 5 ≤ 7 by decide) fun s => ?_
  rw [txnCount_indirectIndexedRead hlatch, hbase, extraCount_readOnly hclass, hmode, crossed_indirectIndexed]
  split <;> rfl

/-- R230: a branch takes one more transaction when it is taken, two more when it is taken to another page. -/
theorem makesTableCount_branch {i : Instr} {cond : Flags → Bool} (he : ∀ s, exec i s = runInstr (branch cond) s)
    (hclass : i.accessClass = .branch) (hbase : baseCount i = 2)
    (hcond : ∀ p, branchTaken (encodeOpcode i) p = cond p) : MakesTableCount i := by
  refine makesTableCount_of_txnCount he (allPlain_branch cond) (show 3 ≤ 7 by decide) fun s => ?_
  simp only [txnCount_branch, hbase, extraCount, hclass, hcond]
  split
  next => split <;> rfl
  next => rfl

/-- Every instruction but the jams makes the count of the map: one case for each mode and access class. The lines of all
but the indexed reads and the branches run whatever the operands are. -/
theorem makesTableCount (i : Instr) (hi : i.accessClass ≠ .jam) : MakesTableCount i := by
  cases i with
  | jam02 | jam12 | jam22 | jam32 | jam42 | jam52 | jam62 | jam72 | jam92 | jamB2 | jamD2 | jamF2 =>
    exact absurd rfl hi
  | clc | nopImp1A | sec | nopImp3A | cli | nopImp5A | sei | nopImp7A | dey | txa | tya | txs | tay | tax | clv
  | tsx | iny | dex | cld | nopImpDA | inx | nop | sed | nopImpFA | aslAcc | rolAcc | lsrAcc | rorAcc | oraImm
  | ancImm0B | andImm | ancImm2B | eorImm | alr | adcImm | arr | nopImm80 | nopImm82 | nopImm89 | ane | ldyImm
  | ldxImm | ldaImm | lxa | cpyImm | nopImmC2 | cmpImm | sbx | cpxImm | nopImmE2 | sbcImm | usbc =>
    exact makesTableCount_of_length (fun _ => rfl)
      (allPlain_cons ⟨fun _ => rfl, fun _ _ => by constructor <;> rfl⟩ allPlain_nil)
  | nopZp04 | oraZp | bitZp | andZp | nopZp44 | eorZp | nopZp64 | adcZp | ldyZp | ldaZp | ldxZp | laxZp | cpyZp
  | cmpZp | cpxZp | sbcZp =>
    exact makesTableCount_of_length (fun _ => rfl) (allPlain_zeroPageRead fun _ _ => by constructor <;> rfl)
  | styZp | staZp | stxZp | saxZp =>
    exact makesTableCount_of_length (fun _ => rfl) (allPlain_zeroPageWrite _)
  | aslZp | sloZp | rolZp | rlaZp | lsrZp | sreZp | rorZp | rraZp | decZp | dcpZp | incZp | iscZp =>
    exact makesTableCount_of_length (fun _ => rfl)
      (allPlain_zeroPageModify ⟨fun _ _ => by constructor <;> rfl, fun _ _ => by constructor <;> rfl⟩)
  | nopAbs0C | oraAbs | bitAbs | andAbs | eorAbs | adcAbs | ldyAbs | ldaAbs | ldxAbs | laxAbs | cpyAbs | cmpAbs
  | cpxAbs | sbcAbs =>
    exact makesTableCount_of_length (fun _ => rfl) (allPlain_absoluteRead fun _ _ => by constructor <;> rfl)
  | styAbs | staAbs | stxAbs | saxAbs =>
    exact makesTableCount_of_length (fun _ => rfl) (allPlain_absoluteWrite _)
  | aslAbs | sloAbs | rolAbs | rlaAbs | lsrAbs | sreAbs | rorAbs | rraAbs | decAbs | dcpAbs | incAbs | iscAbs =>
    exact makesTableCount_of_length (fun _ => rfl)
      (allPlain_absoluteModify ⟨fun _ _ => by constructor <;> rfl, fun _ _ => by constructor <;> rfl⟩)
  | nopZpx14 | oraZpx | nopZpx34 | andZpx | nopZpx54 | eorZpx | nopZpx74 | adcZpx | ldyZpx | ldaZpx | ldxZpy
  | laxZpy | nopZpxD4 | cmpZpx | nopZpxF4 | sbcZpx =>
    exact makesTableCount_of_length (fun _ => rfl) (allPlain_zeroPageIndexedRead _ fun _ _ => by constructor <;> rfl)
  | styZpx | staZpx | stxZpy | saxZpy =>
    exact makesTableCount_of_length (fun _ => rfl) (allPlain_zeroPageIndexedWrite _ _)
  | aslZpx | sloZpx | rolZpx | rlaZpx | lsrZpx | sreZpx | rorZpx | rraZpx | decZpx | dcpZpx | incZpx | iscZpx =>
    exact makesTableCount_of_length (fun _ => rfl)
      (allPlain_zeroPageIndexedModify _ ⟨fun _ _ => by constructor <;> rfl, fun _ _ => by constructor <;> rfl⟩)
  | staAby | staAbx =>
    exact makesTableCount_of_length (fun _ => rfl) (allPlain_absoluteIndexedWrite _ _)
  | sloAby | aslAbx | sloAbx | rlaAby | rolAbx | rlaAbx | sreAby | lsrAbx | sreAbx | rraAby | rorAbx | rraAbx
  | dcpAby | decAbx | dcpAbx | iscAby | incAbx | iscAbx =>
    exact makesTableCount_of_length (fun _ => rfl)
      (allPlain_absoluteIndexedModify _ ⟨fun _ _ => by constructor <;> rfl, fun _ _ => by constructor <;> rfl⟩)
  | tas | shy | shx | shaAby =>
    exact makesTableCount_of_length (fun _ => rfl)
      (allPlain_absoluteIndexedHighAnd _ _ fun _ => by constructor <;> rfl)
  | oraIzx | andIzx | eorIzx | adcIzx | ldaIzx | laxIzx | cmpIzx | sbcIzx =>
    exact makesTableCount_of_length (fun _ => rfl) (allPlain_indexedIndirectRead fun _ _ => by constructor <;> rfl)
  | staIzx | saxIzx =>
    exact makesTableCount_of_length (fun _ => rfl) (allPlain_indexedIndirectWrite _)
  | sloIzx | rlaIzx | sreIzx | rraIzx | dcpIzx | iscIzx =>
    exact makesTableCount_of_length (fun _ => rfl)
      (allPlain_indexedIndirectModify ⟨fun _ _ => by constructor <;> rfl, fun _ _ => by constructor <;> rfl⟩)
  | staIzy =>
    exact makesTableCount_of_length (fun _ => rfl) (allPlain_indirectIndexedWrite _)
  | sloIzy | rlaIzy | sreIzy | rraIzy | dcpIzy | iscIzy =>
    exact makesTableCount_of_length (fun _ => rfl)
      (allPlain_indirectIndexedModify ⟨fun _ _ => by constructor <;> rfl, fun _ _ => by constructor <;> rfl⟩)
  | nopAbx1C | oraAbx | nopAbx3C | andAbx | nopAbx5C | eorAbx | nopAbx7C | adcAbx | ldyAbx | ldaAbx | nopAbxDC
  | cmpAbx | nopAbxFC | sbcAbx =>
    exact makesTableCount_absoluteIndexedRead (fun _ => rfl) rfl rfl isIndex_indexX crossed_absoluteX
      (fun _ _ => by constructor <;> rfl) (fun _ _ => rfl)
  | oraAby | andAby | eorAby | adcAby | ldaAby | las | ldxAby | laxAby | cmpAby | sbcAby =>
    exact makesTableCount_absoluteIndexedRead (fun _ => rfl) rfl rfl isIndex_indexY crossed_absoluteY
      (fun _ _ => by constructor <;> rfl) (fun _ _ => rfl)
  | oraIzy | andIzy | eorIzy | adcIzy | ldaIzy | laxIzy | cmpIzy | sbcIzy =>
    exact makesTableCount_indirectIndexedRead (fun _ => rfl) rfl rfl rfl
      (fun _ _ => by constructor <;> rfl) (fun _ _ => rfl)
  | bpl | bvc | bcc | bne => exact makesTableCount_branch (fun _ => rfl) rfl rfl fun _ => beq_false _
  | bmi | bvs | bcs | beq => exact makesTableCount_branch (fun _ => rfl) rfl rfl fun _ => beq_true _
  | shaIzy =>
    exact makesTableCount_of_length (fun _ => rfl) (allPlain_indirectIndexedHighAnd _)
  | pha => exact makesTableCount_of_length (fun _ => rfl) allPlain_phaLines
  | php => exact makesTableCount_of_length (fun _ => rfl) allPlain_phpLines
  | pla => exact makesTableCount_of_length (fun _ => rfl) allPlain_plaLines
  | plp => exact makesTableCount_of_length (fun _ => rfl) allPlain_plpLines
  | jmpAbs => exact makesTableCount_of_length (fun _ => rfl) allPlain_jmpLines
  | jmpInd => exact makesTableCount_of_length (fun _ => rfl) allPlain_jmpIndirectLines
  | jsr => exact makesTableCount_of_length (fun _ => rfl) allPlain_jsrLines
  | rts => exact makesTableCount_of_length (fun _ => rfl) allPlain_rtsLines
  | rti => exact makesTableCount_of_length (fun _ => rfl) allPlain_returnLines
  | brk => exact makesTableCount_of_length (fun _ => rfl) allPlain_brkLines

/-- The twelve jams, which the map gives the opcode fetch alone (R97, R293). -/
theorem exec_of_jam {i : Instr} (hi : i.accessClass = .jam) : (∀ s, exec i s = jam s) ∧ baseCount i = 1 := by
  cases i with
  | jam02 | jam12 | jam22 | jam32 | jam42 | jam52 | jam62 | jam72 | jam92 | jamB2 | jamD2 | jamF2 =>
    exact ⟨fun _ => rfl, rfl⟩
  | _ => cases hi

/-- Settles O37: the clock moves on by the transactions made, whose number the map gives. -/
theorem transactionCountsAreTheTables : Obligations.TransactionCountsAreTheTables := by
  unfold Obligations.TransactionCountsAreTheTables
  intro i s t hs h
  split
  next hjam =>
    obtain ⟨he, hbase⟩ := exec_of_jam hjam
    have hextra : extraCount i s = 0 := by simp only [extraCount, hjam]
    cases (he s).symm.trans h
    rw [hbase, hextra]
    rfl
  next hjam =>
    obtain ⟨n, hn, u, hu, hclock⟩ := makesTableCount i hjam s hs
    cases hu.symm.trans h
    omega

end Sys2Proof.Proofs
end

section
/-! SUPPORT. A plain memory reads back the last write, and logs of transactions follow one another (R62, R65, R66). -/

namespace Sys2Proof.Proofs

open Sys2Proof.Machine Sys2Proof.Safety Sys2Proof.Laws

/-! ### Memory read after a write -/

theorem read_put {a : Nat} {rest : List Host.Cell} (v : Byte) (b : Nat) (hw : Memory.wfFrom (a + 1) rest = true) :
    Memory.read (Memory.put a v rest) b = if b = a then v else Memory.read rest b := by
  have hbelow : b ≤ a → Memory.read rest b = Memory.blank := fun hb => read_below (by omega) hw
  unfold Memory.put
  split
  next hv =>
    split
    next hb => rw [hbelow hb.le, hv]
    next => rfl
  next =>
    rw [Memory.read]
    split
    next hlt => rw [if_neg hlt.ne, hbelow hlt.le]
    next => rfl

theorem read_write_from {a : Nat} (v : Byte) (b : Nat) : ∀ {lo : Nat} {m : List Host.Cell},
    Memory.wfFrom lo m = true → Memory.read (Memory.write m a v) b = if b = a then v else Memory.read m b
  | _, [], _ => read_put v b rfl
  | lo, (k, c) :: rest, hw => by
    obtain ⟨-, hk, hc, hrest⟩ := wfFrom_cons.mp hw
    rw [Memory.write]
    split
    next hlt => exact read_put v b (wfFrom_cons.mpr ⟨hlt, hk, hc, hrest⟩)
    next hlt =>
      split
      next heq =>
        subst heq
        rw [read_put v b hrest, Memory.read]
        split
        next => rfl
        next hb =>
          split
          next hlow => exact read_below (by omega) hrest
          next => rfl
      next hne =>
        rw [Memory.read, Memory.read, read_write_from v b hrest]
        split
        next hlow => rw [if_neg (by omega)]
        next =>
          split
          next hbk => rw [if_neg (by omega)]
          next => rfl

/-- R66: in a memory in canonical form the byte written reads back, and every other byte reads as before. -/
theorem read_write {m : List Host.Cell} (hw : Memory.wf m = true) (a b : Nat) (v : Byte) :
    Memory.read (Memory.write m a v) b = if b = a then v else Memory.read m b :=
  read_write_from v b hw

/-! ### Logs one after the other -/

theorem recorded_append (l r : List Access) (clock : Nat) (h : List Event) :
    recorded clock (l ++ r) h = recorded (clock + l.length) r (recorded clock l h) := by
  induction l generalizing clock h with
  | nil => rfl
  | cons acc l ih =>
    rw [List.cons_append, recorded, ih, recorded, List.length_cons, Nat.add_right_comm, Nat.add_assoc]

theorem written_append (l r : List Access) (a : Word) (old : Byte) :
    written (l ++ r) a old = written r a (written l a old) := by
  induction l generalizing old with
  | nil => rfl
  | cons acc l ih => exact ih _

/-- The first log accounts for all pending stall cycles, the second finds none. -/
theorem performed_trans {l r : List Access} {s t u : State} (hl : Performed l s t) (hr : Performed r t u) :
    Performed (l ++ r) s u where
  history := by
    rw [hr.history, hl.history, hl.sched, recorded_append]
    rfl
  sched := by
    rw [hr.sched, hl.sched, List.length_append]
    simp only [Sched.mk.injEq, and_true]
    omega
  memory a := by rw [hr.memory, hl.memory, written_append]
  canonical := hr.canonical

/-- With the lines held the edge is found by the first poll, and the last poll decides (R313). -/
theorem sampled_trans {i j : Bool} {s t u : State} (hs : Sampled i s t) (ht : Sampled j t u)
    (hnmi : t.nmiLine = s.nmiLine) (hirq : t.irqLines = s.irqLines) : Sampled j s u := by
  obtain ⟨hprev, hpend, -, -⟩ := hs
  obtain ⟨hprev', hpend', hint, hvector⟩ := ht
  refine ⟨hprev'.trans hnmi, ?_, hirq ▸ hint, hvector⟩
  rw [hpend', hnmi, hprev, Bool.and_not_self, Bool.or_false, hpend]

end Sys2Proof.Proofs
end

section
/-! SUPPORT. A run of lines on plain memory with budget left: the transactions it makes, and what it leaves alone (R61, R62,
R120). -/

namespace Sys2Proof.Proofs

open Sys2Proof.Machine Sys2Proof.Safety Sys2Proof.Laws

/-! ### One line -/

/-- The budget covers the next transaction with the stall cycles that it accounts for. -/
theorem Covers.due_lt {n : Nat} {s : State} (h : Covers (n + 1) s) (d : Dir) : s.sched.due d + 1 < s.sched.budget := by
  have hb := h.budget
  have hd := due_le d s.sched
  omega

/-- The transaction of a line, answered by plain memory, as the history shows it. -/
def access (m : Micro) (s : State) : Access := ⟨(m.txn s).dir, (m.txn s).addr, plainData (m.txn s) s⟩

/-- From `s` to `t`, at step e of a transaction, the transactions of `log` were performed, the last of them polling with the
I flag `i`, and besides only registers and latches have changed. -/
structure Ran (log : List Access) (i : Bool) (s t : State) : Prop where
  resetReq : t.resetReq = s.resetReq
  performed : Performed log s t
  sampled : Sampled i s t
  untouched : Untouched s (finish t)

theorem Ran.trans {l r : List Access} {i j : Bool} {s t u : State} (hl : Ran l i s t) (hr : Ran r j t u) :
    Ran (l ++ r) j s u where
  resetReq := hr.resetReq.trans hl.resetReq
  performed := performed_trans hl.performed hr.performed
  sampled := sampled_trans hl.sampled hr.sampled hl.untouched.nmiLine hl.untouched.irqLines
  untouched :=
    have h := hl.untouched
    have h' := hr.untouched
    { ir := h'.ir.trans h.ir
      nmiLine := h'.nmiLine.trans h.nmiLine
      irqLines := h'.irqLines.trans h.irqLines
      run := h'.run.trans h.run
      active := h'.active.trans h.active
      others := h'.others.trans h.others
      devices := h'.devices.trans h.devices
      report := h'.report.trans h.report
      driver := h'.driver.trans h.driver
      boundary := rfl
      latch := rfl
      polls := h'.polls }

/-- A line finds memory in canonical form, polling enabled, and stall cycles pending only if it reads. -/
structure Starts (m : Micro) (s : State) : Prop where
  canonical : Memory.wf s.mem = true
  polls : s.suspend = false
  stall : (m.txn s).dir = .read ∨ s.sched.stallPending = 0

section
variable {m : Micro} {s : State} (hs : Starts m s)
include hs

theorem due_eq_stallPending : s.sched.due (m.txn s).dir = s.sched.stallPending := by
  obtain hread | hstall := hs.stall
  · rw [hread]; rfl
  · have hd := due_le (m.txn s).dir s.sched
    omega

/-- The transaction of a line, as the history, the scheduler state and memory show it (R61). -/
theorem performed_afterTxn (sus : Bool) : Performed [access m s] s (afterTxn sus (m.txn s) s) where
  history := by
    show _ :: s.history = _
    rw [due_eq_stallPending hs]
    rfl
  sched := by
    show (s.sched.account (s.sched.due (m.txn s).dir)).tick = _
    rw [due_eq_stallPending hs, Sched.account, Sched.tick, Nat.sub_self]
    rfl
  memory a := by
    show Memory.read (plainMem (m.txn s) s) a.toNat = written [access m s] a (Memory.read s.mem a.toNat)
    by_cases hd : (m.txn s).dir = .write
    · simp [written, access, plainMem, plainData, hd, read_write hs.canonical, BitVec.toNat_inj, eq_comm (a := a)]
    · simp [written, access, plainMem, hd]
  canonical := by
    show Memory.wf (plainMem (m.txn s) s) = true
    unfold plainMem
    split
    · exact wf_write _ (m.txn s).addr.isLt hs.canonical
    · exact hs.canonical

theorem sampled_afterTxn (t : Txn) : Sampled s.p.i s (afterTxn false t s) := by
  have hp : polled false s = poll { s with suspend := false } := by simp only [polled, hs.polls, Bool.or_self,
    Bool.false_eq_true, if_false]
  simp only [Sampled, afterTxn, hp]
  exact ⟨rfl, rfl, rfl, rfl⟩

/-- A line that polls runs to the state after it (R61). -/
theorem ran_afterLine (hm : Plain m) (hsus : m.sus s = false) : Ran [access m s] s.p.i s (afterLine m s) := by
  have hk : Kept (afterTxn false (m.txn s) s) (afterLine m s) := hsus ▸ hm.after _ _
  have hp := performed_afterTxn hs false
  have hi := sampled_afterTxn hs (m.txn s)
  refine ⟨hk.resetReq, ⟨?history, ?sched, ?memory, ?canonical⟩, ?sampled, ?untouched⟩
  case history => exact hk.history.trans hp.history
  case sched => exact hk.sched.trans hp.sched
  case memory => exact fun a => (congrArg (Memory.read · a.toNat) hk.mem).trans (hp.memory a)
  case canonical => exact hk.mem ▸ hp.canonical
  case sampled =>
    unfold Sampled
    rwa [hk.nmiPrev, hk.nmiPending, hk.intPending, hk.intVector]
  case untouched =>
    exact
      { ir := hk.ir
        nmiLine := hk.nmiLine
        irqLines := hk.irqLines
        run := hk.run
        active := hk.active
        others := hk.others
        devices := hk.devices
        report := hk.report
        driver := hk.driver
        boundary := rfl
        latch := rfl
        polls := hk.suspend }

end

/-! ### A run of lines -/

/-- The lines, all of them polling, run from `s` to `t` on plain memory: they make the transactions of `log`, and the last of
these polls with the I flag `i`. -/
inductive Runs : List Micro → State → List Access → Bool → State → Prop
  | last {m : Micro} {rest : List Micro} {s : State} (hend : rest = [] ∨ m.ends (afterLine m s) = true)
      (hsus : m.sus s = false := by rfl) : Runs (m :: rest) s [access m s] s.p.i (afterLine m s)
  | next {m : Micro} {rest : List Micro} {s t : State} {log : List Access} {i : Bool}
      (hrest : Runs rest (afterLine m s) log i t) (hends : m.ends (afterLine m s) = false := by rfl)
      (hsus : m.sus s = false := by rfl) : Runs (m :: rest) s (access m s :: log) i t

/-- A run of plain lines that the budget covers is what the sequencer does, and it is framed. -/
theorem Runs.runFrom_eq {lines : List Micro} {s t : State} {log : List Access} {i : Bool} (h : Runs lines s log i t)
    (hl : AllPlain lines) (hc : Covers lines.length s) (hs : ∀ m ∈ lines.head?, Starts m s) (q : SeqKind) (k : Nat) :
    runFrom q k lines s = .next (finish t) ∧ Ran log i s t := by
  induction h generalizing k with
  | @last m rest s hend hsus =>
    obtain ⟨hm, -⟩ := List.forall_mem_cons.mp hl
    have hstart := hs m rfl
    refine ⟨?_, ran_afterLine hstart hm hsus⟩
    rw [runFrom_cons_plain q k rest hm hc.plain (hc.due_lt _)]
    obtain rfl | hend := hend
    · exact ite_self _
    · exact if_pos hend
  | @next m rest s t log i hrest hends hsus ih =>
    obtain ⟨hm, hrestPlain⟩ := List.forall_mem_cons.mp hl
    have hstart := hs m rfl
    have hline := ran_afterLine hstart hm hsus
    have hnext : ∀ m' ∈ rest.head?, Starts m' (afterLine m s) := fun _ _ =>
      ⟨hline.performed.canonical, hline.untouched.polls, .inr (congrArg Sched.stallPending hline.performed.sched)⟩
    obtain ⟨heq, hran⟩ := ih hrestPlain (hc.afterLine hm) hnext (k + 1)
    refine ⟨?_, hline.trans hran⟩
    rw [runFrom_cons_plain q k rest hm hc.plain (hc.due_lt _), hends]
    exact heq

/-! ### Completion -/

/-- The registers of `t` are those of the effect `e`. -/
structure Leaves (e : Effect) (t : State) : Prop where
  registers : regs t = e.regs
  pc : t.pc = e.pc
  opr : t.opr = e.opr
  ea : ∀ a, e.ea = some a → t.ea = a

/-- The lines run from `s` with the effect `e`. -/
def RunsTo (lines : List Micro) (s : State) (e : Effect) : Prop := ∃ t, Runs lines s e.log e.pollI t ∧ Leaves e t

/-- An instruction that is at most seven lines, the first of them a read, completes from a ready state as its lines run. -/
theorem ends_of_runsTo {i : Instr} {lines : List Micro} {s : State} {e : Effect} (hs : Ready s)
    (he : exec i s = runInstr lines s) (hl : AllPlain lines) (hlen : lines.length ≤ 7)
    (hread : lines.head?.map (fun m => (m.txn s).dir) = some .read) (h : RunsTo lines s e) : Ends i s e := by
  obtain ⟨t, hruns, hleaves⟩ := h
  have hcovers : Covers lines.length s := ⟨hs.plain, by have := hs.budget; omega⟩
  have hstarts : ∀ m ∈ lines.head?, Starts m s := by
    intro m hm
    rw [Option.mem_def.mp hm] at hread
    exact ⟨hs.canonical, hs.polls, .inl (Option.some.inj hread)⟩
  obtain ⟨heq, hran⟩ := hruns.runFrom_eq hl hcovers hstarts .instr 1
  refine ⟨finish t, ?_, ?_⟩
  · rw [he, runInstr, runSeq_boundary hs.boundary, heq]
  · exact
      { registers := hleaves.registers
        pc := hleaves.pc
        opr := hleaves.opr
        ea := hleaves.ea
        resetReq := hran.resetReq
        performed := ⟨hran.performed.history, hran.performed.sched, hran.performed.memory, hran.performed.canonical⟩
        sampled := hran.sampled
        untouched := hran.untouched }

end Sys2Proof.Proofs
end

section
/-! SUPPORT. The addressing modes of R124 to R133: each forms the address that R96 says, by the transactions that its
sequence says. -/

namespace Sys2Proof.Proofs

open Sys2Proof.Machine Sys2Proof.Safety Sys2Proof.Laws

/-! ### A transaction and the registers -/

section
variable (sus : Bool) (t : Txn) (s : State)

@[simp] theorem afterTxn_a : (afterTxn sus t s).a = s.a := rfl
@[simp] theorem afterTxn_x : (afterTxn sus t s).x = s.x := rfl
@[simp] theorem afterTxn_y : (afterTxn sus t s).y = s.y := rfl
@[simp] theorem afterTxn_s : (afterTxn sus t s).s = s.s := rfl
@[simp] theorem afterTxn_p : (afterTxn sus t s).p = s.p := rfl
@[simp] theorem afterTxn_pc : (afterTxn sus t s).pc = s.pc := rfl
@[simp] theorem afterTxn_ea : (afterTxn sus t s).ea = s.ea := rfl
@[simp] theorem afterTxn_opr : (afterTxn sus t s).opr = s.opr := rfl
@[simp] theorem afterTxn_latch : (afterTxn sus t s).latch = s.latch := rfl
@[simp] theorem afterTxn_readTxn_mem (a : Word) : (afterTxn sus (readTxn a) s).mem = s.mem := rfl
@[simp] theorem readTxn_dir (a : Word) : (readTxn a).dir = .read := rfl
@[simp] theorem readTxn_addr (a : Word) : (readTxn a).addr = a := rfl
@[simp] theorem plainData_readTxn (a : Word) : plainData (readTxn a) s = peek s a := rfl

end

/-! ### Lines that all run -/

/-- The core after lines that all run, on plain memory. -/
def afterLines : List Micro → State → State
  | [], s => s
  | m :: rest, s => afterLines rest (afterLine m s)

/-- The transactions of lines that all run. -/
def accesses : List Micro → State → List Access
  | [], _ => []
  | m :: rest, s => access m s :: accesses rest (afterLine m s)

/-- A line that polls and never ends its sequence. -/
def GoesOn (m : Micro) : Prop := (∀ s, m.sus s = false) ∧ ∀ s, m.ends s = false

/-- A run of some lines goes before a run of the lines that follow them. -/
theorem Runs.append {tail : List Micro} {log : List Access} {i : Bool} {t : State} :
    ∀ {lines : List Micro} {s : State}, (∀ m ∈ lines, GoesOn m) → Runs tail (afterLines lines s) log i t →
    Runs (lines ++ tail) s (accesses lines s ++ log) i t
  | [], _, _, h => h
  | m :: rest, s, hl, h => by
    obtain ⟨⟨hsus, hends⟩, hrest⟩ := List.forall_mem_cons.mp hl
    exact .next (Runs.append hrest h) (hends _) (hsus s)

/-! ### Addresses as the sequencer computes them -/

/-- A page-0 address (R15), as R96 has it. -/
theorem zeroPage_eq_setWidth (b : Byte) : zeroPage b = b.setWidth 16 := by
  simp [zeroPage, word]

/-- An add in the low half only (R125). -/
theorem writeLo_zeroPage (b i : Byte) : writeLo (zeroPage b) (lo8 (zeroPage b) + i) = (b + i).setWidth 16 := by
  rw [writeLo, zeroPage, hi8_word, lo8_word]
  exact zeroPage_eq_setWidth _

/-- Both halves of EA written, the low one first (R126). -/
theorem writeHi_writeLo (w : Word) (hi lo : Byte) : writeHi (writeLo w lo) hi = hi ++ lo := by
  rw [writeHi, lo8_writeLo, word_eq_append]

/-- R127: where the low byte of an index add carries out, one more in the high byte corrects the address. -/
theorem writeHi_append_of_carryOut {hi lo i : Byte} (hc : carryOut lo i = true) :
    writeHi (hi ++ (lo + i)) (hi8 (hi ++ (lo + i)) + 1) = hi ++ lo + i.setWidth 16 := by
  have happend : ∀ a b : Byte, (a ++ b).toNat = a.toNat * 256 + b.toNat := fun a b => by
    rw [BitVec.toNat_append, ← Nat.shiftLeft_add_eq_or_of_lt b.isLt, Nat.shiftLeft_eq]
  have hcarry : 256 ≤ lo.toNat + i.toNat := of_decide_eq_true hc
  have hone : (1 : Byte).toNat = 1 := rfl
  rw [← word_eq_append hi (lo + i), writeHi, hi8_word, lo8_word, word_eq_append]
  apply BitVec.eq_of_toNat_eq
  simp only [happend, BitVec.toNat_add, BitVec.toNat_setWidth, hone]
  omega

/-! ### The lines that form an address -/

/-- From `s` the operand bytes of the mode have been fetched, EA is `a`, and the carry of the index add is known where it
matters; but for the latches and OPR no other register has changed, and no memory. -/
structure Formed (m : Mode) (a : Word) (s u : State) : Prop where
  registers : regs u = regs s
  pc : u.pc = pastOperand m s
  mem : u.mem = s.mem
  ea : u.ea = a
  carry : indexed m = true → u.latch.c = crossed m s

/-- The lines form the address `a` of the mode by the transactions `log`, from any state. -/
structure FormsEa (m : Mode) (lines : List Micro) (log : State → List Access) (a : State → Word) : Prop where
  plain : AllPlain lines
  goesOn : ∀ l ∈ lines, GoesOn l
  short : lines.length ≤ 4
  reads : ∀ s, lines.head?.map (fun l => (l.txn s).dir) = some .read
  log : ∀ s, accesses lines s = log s
  forms : ∀ s, Formed m (a s) s (afterLines lines s)
  opr : ∀ s, (afterLines lines s).opr = s.opr

/-- R124. -/
theorem formsEa_zeroPage : FormsEa .zeroPage [fetchZeroPage] (addressing .zeroPage) (tentative .zeroPage) where
  plain := allPlain_cons plain_fetchZeroPage allPlain_nil
  goesOn := by simp [GoesOn, fetchZeroPage, fetchByte]
  short := by decide
  reads _ := rfl
  log _ := rfl
  forms _ := ⟨rfl, rfl, rfl, zeroPage_eq_setWidth _, nofun⟩
  opr _ := rfl

theorem idx_afterTxn {idx : Index} (hidx : IsIndex idx) (sus : Bool) (t : Txn) (s : State) :
    idx (afterTxn sus t s) = idx s :=
  hidx _ _ rfl rfl

/-- R125, for either index register. -/
theorem formsEa_zeroPageIndexed {m : Mode} {idx : Index} (hidx : IsIndex idx) (hm : indexed m = false)
    (hbytes : m.operandBytes = 1) (hlog : ∀ s, addressing m s = [rd s s.pc, rd s (zp (b2 s))])
    (hea : ∀ s, tentative m s = (b2 s + idx s).setWidth 16) :
    FormsEa m (zeroPageIndexed idx) (addressing m) (tentative m) where
  plain := allPlain_zeroPageIndexed idx
  goesOn := by simp [GoesOn, zeroPageIndexed, fetchZeroPage, fetchByte]
  short := show 2 ≤ 4 by decide
  reads _ := rfl
  log s := by
    rw [hlog, ← zeroPage_eq]
    rfl
  forms s := by
    refine ⟨rfl, ?pc, rfl, ?ea, by simp [hm]⟩
    case pc => rw [pastOperand, hbytes]; rfl
    case ea =>
      rw [hea, ← writeLo_zeroPage]
      simp [afterLines, zeroPageIndexed, afterLine, fetchZeroPage, fetchByte, b2, idx_afterTxn hidx, hidx s]
  opr _ := rfl

/-- R126. -/
theorem formsEa_absolute : FormsEa .absolute absoluteAddr (addressing .absolute) (tentative .absolute) where
  plain := allPlain_absoluteAddr
  goesOn := by simp [GoesOn, absoluteAddr, fetchEal, fetchEah, fetchByte]
  short := by decide
  reads _ := rfl
  log _ := rfl
  forms _ := ⟨rfl, BitVec.add_assoc _ _ _, rfl, writeHi_writeLo _ _ _, nofun⟩
  opr _ := rfl

/-- R127, for either index register: the tentative address, the index added to the low byte only. -/
theorem formsEa_absoluteIndexed {m : Mode} {idx : Index} (hidx : IsIndex idx)
    (hbytes : m.operandBytes = 2) (hlog : ∀ s, addressing m s = [rd s s.pc, rd s (s.pc + 1)])
    (hea : ∀ s, tentative m s = b3 s ++ (b2 s + idx s)) (hcross : ∀ s, crossed m s = carryOut (b2 s) (idx s)) :
    FormsEa m (absoluteIndexed idx) (addressing m) (tentative m) where
  plain := allPlain_absoluteIndexed idx Kept.refl
  goesOn := by simp [GoesOn, absoluteIndexed, fetchEal, fetchByte]
  short := show 2 ≤ 4 by decide
  reads _ := rfl
  log s := by
    rw [hlog]
    rfl
  forms s := by
    refine ⟨rfl, ?pc, rfl, ?ea, fun _ => ?carry⟩
    case pc => rw [pastOperand, hbytes]; exact BitVec.add_assoc _ _ _
    case ea =>
      rw [hea, ← word_eq_append]
      simp [afterLines, absoluteIndexed, afterLine, fetchEal, fetchByte, b2, b3, peek, lo8_writeLo, hidx s]
    case carry =>
      rw [hcross]
      simp [afterLines, absoluteIndexed, afterLine, fetchEal, fetchByte, b2, lo8_writeLo, hidx s]
  opr _ := rfl

/-- R130. -/
theorem formsEa_indexedIndirect :
    FormsEa .indexedIndirect indexedIndirect (addressing .indexedIndirect) (tentative .indexedIndirect) where
  plain := allPlain_indexedIndirect
  goesOn := by simp [GoesOn, indexedIndirect, fetchPointer, pointerLo, fetchByte]
  short := by decide
  reads _ := rfl
  log s := by
    simp [accesses, access, indexedIndirect, afterLine, fetchPointer, pointerLo, fetchByte, addressing, rd, b2, peek,
      zeroPage_eq]
  forms s := by
    constructor <;>
      simp [afterLines, indexedIndirect, afterLine, fetchPointer, pointerLo, fetchByte, regs, pastOperand,
        Mode.operandBytes, tentative, effective, b2, peek, zeroPage_eq, word_eq_append, indexed]
  opr s := by simp [afterLines, indexedIndirect, afterLine, fetchPointer, pointerLo, fetchByte]

/-- R131: the tentative address, Y added to the low byte only. -/
theorem formsEa_indirectIndexed :
    FormsEa .indirectIndexed indirectIndexed (addressing .indirectIndexed) (tentative .indirectIndexed) where
  plain := allPlain_indirectIndexed
  goesOn := by simp [GoesOn, indirectIndexed, fetchPointer, pointerLo, fetchByte]
  short := by decide
  reads _ := rfl
  log s := by
    simp [accesses, access, indirectIndexed, afterLine, fetchPointer, pointerLo, fetchByte, addressing, rd, b2, peek,
      zeroPage_eq]
  forms s := by
    constructor <;>
      simp [afterLines, indirectIndexed, afterLine, fetchPointer, pointerLo, fetchByte, regs, pastOperand,
        Mode.operandBytes, tentative, b2, peek, zeroPage_eq, word_eq_append, crossed_indirectIndexed]
  opr s := by simp [afterLines, indirectIndexed, afterLine, fetchPointer, pointerLo, fetchByte]

/-! ### Every mode that forms an address -/

/-- The modes whose operand is in memory at EA. -/
def formsAddress : Mode → Bool
  | .zeroPage | .zeroPageX | .zeroPageY | .absolute | .absoluteX | .absoluteY => true
  | .indexedIndirect | .indirectIndexed => true
  | _ => false

/-- The lines of the mode from T2 on, up to the first access at EA. -/
def addressLines : Mode → List Micro
  | .zeroPage => [fetchZeroPage]
  | .zeroPageX => zeroPageIndexed indexX
  | .zeroPageY => zeroPageIndexed indexY
  | .absolute => absoluteAddr
  | .absoluteX => absoluteIndexed indexX
  | .absoluteY => absoluteIndexed indexY
  | .indexedIndirect => indexedIndirect
  | .indirectIndexed => indirectIndexed
  | _ => []

theorem formsEa_addressLines {m : Mode} (hm : formsAddress m = true) :
    FormsEa m (addressLines m) (addressing m) (tentative m) := by
  cases m with
  | zeroPage => exact formsEa_zeroPage
  | zeroPageX => exact formsEa_zeroPageIndexed isIndex_indexX rfl rfl (fun _ => rfl) fun _ => rfl
  | zeroPageY => exact formsEa_zeroPageIndexed isIndex_indexY rfl rfl (fun _ => rfl) fun _ => rfl
  | absolute => exact formsEa_absolute
  | absoluteX => exact formsEa_absoluteIndexed isIndex_indexX rfl (fun _ => rfl) (fun _ => rfl) crossed_absoluteX
  | absoluteY => exact formsEa_absoluteIndexed isIndex_indexY rfl (fun _ => rfl) (fun _ => rfl) crossed_absoluteY
  | indexedIndirect => exact formsEa_indexedIndirect
  | indirectIndexed => exact formsEa_indirectIndexed
  | implied | accumulator | immediate | absoluteIndirect | relative => cases hm

/-! ### The corrected address -/

theorem afterLines_append (lines rest : List Micro) (s : State) :
    afterLines (lines ++ rest) s = afterLines rest (afterLines lines s) := by
  induction lines generalizing s with
  | nil => rfl
  | cons m lines ih => exact ih _

theorem accesses_append (lines rest : List Micro) (s : State) :
    accesses (lines ++ rest) s = accesses lines s ++ accesses rest (afterLines lines s) := by
  induction lines generalizing s with
  | nil => rfl
  | cons m lines ih => exact congrArg (List.cons _) (ih _)

/-- The tentative address is the operand's address where the index add stays in its page. -/
theorem tentative_of_not_crossed {m : Mode} {s : State} (h : crossed m s = false) : tentative m s = effective m s := by
  simpa [crossed] using h

/-- R127: where it leaves the page, the high byte plus one is right. -/
theorem writeHi_tentative_of_crossed {m : Mode} {s : State} (h : crossed m s = true) :
    writeHi (tentative m s) (hi8 (tentative m s) + 1) = effective m s := by
  cases m with
  | absoluteX => exact writeHi_append_of_carryOut ((crossed_absoluteX s).symm.trans h)
  | absoluteY => exact writeHi_append_of_carryOut ((crossed_absoluteY s).symm.trans h)
  | indirectIndexed => exact writeHi_append_of_carryOut ((crossed_indirectIndexed s).symm.trans h)
  | _ => simp [crossed, tentative] at h

section
variable (s : State)

@[simp] theorem fixPage_ea :
    (fixPage s).ea = if s.latch.c then writeHi s.ea (hi8 s.ea + 1) else s.ea := by
  unfold fixPage; split <;> rfl

@[simp] theorem fixPage_pc : (fixPage s).pc = s.pc := by unfold fixPage; split <;> rfl

@[simp] theorem fixPage_opr : (fixPage s).opr = s.opr := by unfold fixPage; split <;> rfl

@[simp] theorem regs_fixPage : regs (fixPage s) = regs s := by unfold fixPage; split <;> rfl

end

section
variable {m : Mode} {a : Word} {s u : State} (h : Formed m a s u)
include h

theorem Formed.peek_eq (b : Word) : peek u b = peek s b := congrArg (Memory.read · b.toNat) h.mem

theorem Formed.i_eq : u.p.i = s.p.i := congrArg (fun r : RegFile => r.p.i) h.registers

/-- A read whose byte goes to OPR at most. -/
theorem Formed.read (b : Word) (v : Byte) : Formed m a s { afterTxn false (readTxn b) u with opr := v } :=
  ⟨h.registers, h.pc, h.mem, h.ea, h.carry⟩

end

/-- After the read at the tentative address EA is corrected. -/
theorem Formed.fixPage {m : Mode} {s u : State} (h : Formed m (tentative m s) s u) (hi : indexed m = true) :
    Formed m (effective m s) s (fixPage u) where
  registers := (regs_fixPage u).trans h.registers
  pc := (fixPage_pc u).trans h.pc
  mem := (kept_fixPage u).mem.trans h.mem
  ea := by
    rw [fixPage_ea, h.carry hi, h.ea]
    split
    next hc => exact writeHi_tentative_of_crossed hc
    next hc => exact tentative_of_not_crossed (Bool.eq_false_iff.mpr hc)
  carry _ := (congrArg Latches.c (fixPage_latch u)).trans (h.carry hi)

/-- The dummy read of the write and read-modify-write classes, in the modes that make one (R128, R132). -/
def dummyLines (m : Mode) : List Micro := if indexed m then [dummyTentative] else []

/-- The lines of the write and read-modify-write classes form the operand's address. -/
theorem formsEa_effective {m : Mode} (hm : formsAddress m = true) :
    FormsEa m (addressLines m ++ dummyLines m) (fun s => addressing m s ++ dummyLog m s) (effective m) := by
  have hf := formsEa_addressLines hm
  cases hi : indexed m with
  | false =>
    have ha : tentative m = effective m := funext fun s => tentative_of_not_crossed (crossed_of_not_indexed hi s)
    simpa [dummyLines, dummyLog, hi, ha] using hf
  | true =>
    have hdummy : dummyLines m = [dummyTentative] := if_pos hi
    have hlog : ∀ s, dummyLog m s = [rd s (tentative m s)] := fun s => if_pos hi
    simp only [hdummy, hlog]
    exact
      { plain := allPlain_append hf.plain (allPlain_cons plain_dummyTentative allPlain_nil)
        goesOn := List.forall_mem_append.mpr ⟨hf.goesOn, by simp [GoesOn, dummyTentative]⟩
        short := by
          cases m with
          | absoluteX | absoluteY | indirectIndexed => decide
          | _ => cases hi
        reads := fun s => by
          obtain ⟨l, hl, hread⟩ := Option.map_eq_some_iff.mp (hf.reads s)
          simp [List.head?_append, hl, hread]
        log := fun s => by
          rw [accesses_append, hf.log, ← (hf.forms s).ea, rd, ← (hf.forms s).peek_eq]
          rfl
        forms := fun s => by
          rw [afterLines_append]
          exact ((hf.forms s).read _ _).fixPage hi
        opr := fun s => by
          rw [afterLines_append]
          exact (fixPage_opr _).trans (hf.opr s) }

end Sys2Proof.Proofs
end

section
/-! SUPPORT. The access classes of R98 in every mode: an instruction that reads its operand, stores a register or acts on
registers alone completes as the rules of its mode say, whatever it does with the byte. -/

namespace Sys2Proof.Proofs

open Sys2Proof.Machine Sys2Proof.Safety Sys2Proof.Laws

/-- Lines that form an address, and then at most three lines from there, are what the instruction does. -/
theorem FormsEa.ends {m : Mode} {lines tail : List Micro} {log : State → List Access} {a : State → Word}
    (hf : FormsEa m lines log a) {i : Instr} {s t : State} {e : Effect} {log' : List Access} (hs : Ready s)
    (he : exec i s = runInstr (lines ++ tail) s) (hplain : AllPlain tail) (hshort : tail.length ≤ 3)
    (hlog : e.log = log s ++ log') (hruns : Runs tail (afterLines lines s) log' e.pollI t) (ht : Leaves e t) :
    Ends i s e := by
  have hlen := hf.short
  obtain ⟨l, hl, hread⟩ := Option.map_eq_some_iff.mp (hf.reads s)
  refine ends_of_runsTo hs he (allPlain_append hf.plain hplain) ?short ?reads ⟨t, ?runs, ht⟩
  case short => rw [List.length_append]; omega
  case reads => simp [List.head?_append, hl, hread]
  case runs =>
    rw [hlog, ← hf.log]
    exact hruns.append hf.goesOn

/-! ### Operations on registers -/

/-- The operation is `f` on the registers that instructions name, and changes nothing else. -/
structure ActsAs (op : State → State) (f : RegFile → RegFile) : Prop where
  kept : ∀ u, Kept u (op u)
  registers : ∀ u, regs (op u) = f (regs u)
  pc : ∀ u, (op u).pc = u.pc := by intros; rfl
  ea : ∀ u, (op u).ea = u.ea := by intros; rfl
  opr : ∀ u, (op u).opr = u.opr := by intros; rfl
  latch : ∀ u, (op u).latch = u.latch := by intros; rfl

/-- Implied mode (R122): the dummy read at PC, then the operation. -/
theorem actsOnRegisters_of_implied {i : Instr} {op : State → State} {f : RegFile → RegFile} (h : ActsAs op f)
    (he : ∀ s, exec i s = runInstr (implied op) s) : ActsOnRegisters i f := by
  intro s hs
  have ht : Leaves (.plain [rd s s.pc] (f (regs s)) s.pc s.p.i s) (op (afterTxn false (readTxn s.pc) s)) :=
    ⟨h.registers _, h.pc _, h.opr _, fun _ ha => (h.ea _).trans (Option.some.inj ha)⟩
  exact ends_of_runsTo hs (he s) (allPlain_implied h.kept) (show 1 ≤ 7 by decide) rfl ⟨_, .last (.inl rfl), ht⟩

/-! ### The read class -/

/-- The line that reads the operand at EA. -/
def readOperand (op : ReadOp) : Micro where
  txn := fun s => readTxn s.ea
  after := fun d s => op d { s with opr := d }

/-- The lines of the read class, from the first access at EA on (R127, R131). -/
def readTail (m : Mode) (op : ReadOp) : List Micro := if indexed m then readIndexed op else readEa op

/-- The lines of a read-class or immediate instruction (R123 to R127, R130, R131). -/
def readLines (m : Mode) (op : ReadOp) : List Micro :=
  match m with
  | .immediate => immediate op
  | m => addressLines m ++ readTail m op

theorem allPlain_readTail (m : Mode) {op : ReadOp} (h : PlainOp op) : AllPlain (readTail m op) := by
  unfold readTail
  split
  · exact allPlain_readIndexed h
  · exact allPlain_readEa h

theorem readTail_length (m : Mode) (op : ReadOp) : (readTail m op).length ≤ 3 := by
  unfold readTail
  split
  · exact show 2 ≤ 3 by decide
  · exact show 1 ≤ 3 by decide

theorem latchedEa_eq_effective {m : Mode} (hm : formsAddress m = true) (s : State) : latchedEa m s = effective m s := by
  cases m with
  | implied | accumulator | immediate | relative => cases hm
  | _ => rfl

/-- The state after the read at the tentative address when the page was crossed: its byte latched, EA corrected. -/
def corrected (u : State) : State := fixPage { afterTxn false (readTxn u.ea) u with opr := peek u u.ea }

theorem Formed.corrected {m : Mode} {s u : State} (h : Formed m (tentative m s) s u) (hi : indexed m = true) :
    Formed m (effective m s) s (corrected u) :=
  (h.read _ _).fixPage hi

/-- The access at EA, seen from the start. -/
theorem Formed.rd_eq {m : Mode} {a : Word} {s u : State} (h : Formed m a s u) : rd s a = rd u u.ea := by
  rw [rd, rd, h.peek_eq, h.ea]

theorem indexed_of_crossed {m : Mode} {s : State} (hc : crossed m s = true) : indexed m = true := by
  by_contra hi
  simp [crossed_of_not_indexed (Bool.eq_false_iff.mpr hi)] at hc

section
variable {m : Mode} {op : ReadOp} {f : Byte → RegFile → RegFile} {s u : State} (h : ∀ d, ActsAs (op d) (f d))
include h

/-- Where EA is the operand's address, the operation acts on the operand byte and the registers at the start. -/
theorem leaves_readOperand (hm : formsAddress m = true) (hu : Formed m (effective m s) s u) :
    Leaves ⟨readLog m s, f (operand m s) (regs s), pastOperand m s, s.p.i, operand m s, some (latchedEa m s)⟩
      (afterLine (readOperand op) u) := by
  have hd : peek u u.ea = operand m s := by rw [hu.peek_eq, hu.ea, operand]
  refine ⟨?registers, ?pc, ?opr, ?ea⟩
  case registers =>
    rw [← hu.registers, ← hd]
    exact (h _).registers _
  case pc => exact ((h _).pc _).trans hu.pc
  case opr => exact ((h _).opr _).trans hd
  case ea =>
    rintro _ ⟨⟩
    rw [latchedEa_eq_effective hm]
    exact ((h _).ea _).trans hu.ea

theorem readTentative_ends (u : State) :
    (readTentative op).ends (afterLine (readTentative op) u) = !u.latch.c :=
  congrArg (fun l : Latches => !l.c) (afterLine_readTentative_latch (fun d => (h d).latch) u)

/-- R127: within the page the first read is that of the operand. -/
theorem runs_readTail_of_not_crossed (hu : Formed m (tentative m s) s u) (hc : crossed m s = false) :
    Runs (readTail m op) u [rd s (effective m s)] s.p.i (afterLine (readOperand op) u) := by
  rw [← tentative_of_not_crossed hc, hu.rd_eq, ← hu.i_eq]
  unfold readTail
  split
  next hi =>
    have hcarry : u.latch.c = false := (hu.carry hi).trans hc
    have hline : afterLine (readTentative op) u = afterLine (readOperand op) u := if_neg (by simp [hcarry])
    have hends : (readTentative op).ends (afterLine (readTentative op) u) = true := by
      rw [readTentative_ends h, hcarry]; rfl
    rw [readIndexed_eq, ← hline]
    exact .last (.inr hends)
  next => exact .last (.inl rfl)

/-- R127: across a page the operand's read is the second one. -/
theorem runs_readTail_of_crossed (hu : Formed m (tentative m s) s u) (hc : crossed m s = true) :
    Runs (readTail m op) u [rd s (tentative m s), rd s (effective m s)] s.p.i
      (afterLine (readOperand op) (corrected u)) := by
  have hi := indexed_of_crossed hc
  have hw := hu.corrected hi
  have hcarry : u.latch.c = true := (hu.carry hi).trans hc
  have hline : afterLine (readTentative op) u = corrected u := if_pos hcarry
  have hends : (readTentative op).ends (afterLine (readTentative op) u) = false := by
    rw [readTentative_ends h, hcarry]; rfl
  have hsecond : Runs (readEa op) (afterLine (readTentative op) u) [rd (corrected u) (corrected u).ea] (corrected u).p.i
      (afterLine (readOperand op) (corrected u)) := hline ▸ .last (.inl rfl)
  rw [hu.rd_eq, hw.rd_eq, ← hw.i_eq, readTail, if_pos hi]
  exact .next hsecond hends

/-- A read-class instruction in a mode that forms an address (R98). -/
theorem readsOperand_of_ea {i : Instr} (hm : formsAddress m = true)
    (he : ∀ s, exec i s = runInstr (addressLines m ++ readTail m op) s) : ReadsOperand i m f := by
  intro s hs
  have hf := formsEa_addressLines hm
  have hu := hf.forms s
  have hplain := allPlain_readTail m fun d => (h d).kept
  cases hc : crossed m s with
  | false =>
    have hlog : readLog m s = addressing m s ++ [rd s (effective m s)] := by simp [readLog, hc]
    exact hf.ends hs (he s) hplain (readTail_length m op) hlog (runs_readTail_of_not_crossed h hu hc)
      (leaves_readOperand h hm (tentative_of_not_crossed hc ▸ hu))
  | true =>
    have hlog : readLog m s = addressing m s ++ [rd s (tentative m s), rd s (effective m s)] := by
      simp [readLog, hc]
    exact hf.ends hs (he s) hplain (readTail_length m op) hlog (runs_readTail_of_crossed h hu hc)
      (leaves_readOperand h hm (hu.corrected (indexed_of_crossed hc)))

/-- Immediate mode (R123). -/
theorem readsOperand_of_immediate {i : Instr} (he : ∀ s, exec i s = runInstr (immediate op) s) :
    ReadsOperand i .immediate f := by
  intro s hs
  have hlog : readLog .immediate s = [rd s s.pc] := by
    simp [readLog, addressing, crossed_of_not_indexed (m := .immediate) rfl, effective]
  have ht : Leaves ⟨[rd s s.pc], f (b2 s) (regs s), s.pc + 1, s.p.i, b2 s, some s.ea⟩
      (afterLine (fetchByte fun d u => op d { u with opr := d }) s) :=
    ⟨(h _).registers _, (h _).pc _, (h _).opr _, fun _ ha => ((h _).ea _).trans (Option.some.inj ha)⟩
  rw [hlog]
  exact ends_of_runsTo hs (he s) (allPlain_immediate fun d => (h d).kept) (show 1 ≤ 7 by decide) rfl
    ⟨_, .last (.inl rfl), ht⟩

/-- A read-class or immediate instruction completes in every mode that the opcode map has for one. -/
theorem readsOperand_of_readLines {i : Instr} (hm : m = .immediate ∨ formsAddress m = true)
    (he : ∀ s, exec i s = runInstr (readLines m op) s) : ReadsOperand i m f := by
  cases m with
  | immediate => exact readsOperand_of_immediate h he
  | _ => exact readsOperand_of_ea h (hm.resolve_left nofun) he

end

/-! ### The write class -/

/-- The lines of a write-class instruction (R124 to R126, R128, R130, R132). -/
def writeLines (m : Mode) (v : StoreValue) : List Micro := addressLines m ++ dummyLines m ++ writeEa v

/-- Where EA is the operand's address, the write stores the value of the registers at the start. -/
theorem runs_writeEa {m : Mode} {v : StoreValue} {g : RegFile → Byte} {s u : State} (hv : ∀ u, v u = g (regs u))
    (hu : Formed m (effective m s) s u) :
    Runs (writeEa v) u [wr (effective m s) (g (regs s))] s.p.i (afterTxn false (writeTxn u.ea (v u)) u) := by
  rw [← hu.registers, ← hv, ← hu.ea, ← hu.i_eq]
  exact .last (.inl rfl)

/-- A write-class instruction that stores `g` of the registers completes in every mode that forms an address. -/
theorem storesOperand_of_writeLines {i : Instr} {m : Mode} {v : StoreValue} {g : RegFile → Byte}
    (hv : ∀ u, v u = g (regs u)) (hm : formsAddress m = true)
    (he : ∀ s, exec i s = runInstr (writeLines m v) s) : StoresOperand i m g := by
  intro s hs
  have hf := formsEa_effective hm
  have hu := hf.forms s
  exact hf.ends hs (he s) (allPlain_writeEa v) (show 1 ≤ 3 by decide) rfl (runs_writeEa hv hu)
    ⟨hu.registers, hu.pc, hf.opr s, fun _ ha => hu.ea.trans (Option.some.inj ha)⟩

end Sys2Proof.Proofs
end

section
/-! SUPPORT. The loads, the stores and the register transfers (R160 to R171, R275, R276), in every mode. -/

namespace Sys2Proof.Proofs

open Sys2Proof.Machine Sys2Proof.Safety Sys2Proof.Laws

/-! ### The operations -/

theorem actsAs_loadA (v : Byte) : ActsAs (loadA v) fun r => { r with a := v, p := nz r.p v } where
  kept := plainOp_loadA v
  registers u := by rw [← setNZ_eq]; rfl

theorem actsAs_loadX (v : Byte) : ActsAs (loadX v) fun r => { r with x := v, p := nz r.p v } where
  kept := plainOp_loadX v
  registers u := by rw [← setNZ_eq]; rfl

theorem actsAs_loadY (v : Byte) : ActsAs (loadY v) fun r => { r with y := v, p := nz r.p v } where
  kept := plainOp_loadY v
  registers u := by rw [← setNZ_eq]; rfl

theorem actsAs_laxOp (v : Byte) : ActsAs (laxOp v) fun r => { r with a := v, x := v, p := nz r.p v } where
  kept := plainOp_laxOp v
  registers u := by rw [← setNZ_eq]; rfl

theorem actsAs_taxOp : ActsAs taxOp fun r => { r with x := r.a, p := nz r.p r.a } where
  kept := kept_taxOp
  registers u := by rw [← setNZ_eq]; rfl

theorem actsAs_tayOp : ActsAs tayOp fun r => { r with y := r.a, p := nz r.p r.a } where
  kept := kept_tayOp
  registers u := by rw [← setNZ_eq]; rfl

theorem actsAs_txaOp : ActsAs txaOp fun r => { r with a := r.x, p := nz r.p r.x } where
  kept := kept_txaOp
  registers u := by rw [← setNZ_eq]; rfl

theorem actsAs_tyaOp : ActsAs tyaOp fun r => { r with a := r.y, p := nz r.p r.y } where
  kept := kept_tyaOp
  registers u := by rw [← setNZ_eq]; rfl

theorem actsAs_tsxOp : ActsAs tsxOp fun r => { r with x := r.s, p := nz r.p r.s } where
  kept := kept_tsxOp
  registers u := by rw [← setNZ_eq]; rfl

/-- R171: TXS writes no flag. -/
theorem actsAs_txsOp : ActsAs txsOp fun r => { r with s := r.x } where
  kept := kept_txsOp
  registers _ := rfl

/-! ### The statements -/

/-- Settles O6: the opcode map gives each load the lines of its mode. -/
theorem loadsSetRegisterAndNZ : Obligations.LoadsSetRegisterAndNZ := by
  unfold Obligations.LoadsSetRegisterAndNZ
  refine ⟨?lda, ?ldx, ?ldy, ?lax⟩
  case lda =>
    intro e he
    fin_cases he <;> exact ⟨rfl, readsOperand_of_readLines actsAs_loadA (by decide) fun _ => rfl⟩
  case ldx =>
    intro e he
    fin_cases he <;> exact ⟨rfl, readsOperand_of_readLines actsAs_loadX (by decide) fun _ => rfl⟩
  case ldy =>
    intro e he
    fin_cases he <;> exact ⟨rfl, readsOperand_of_readLines actsAs_loadY (by decide) fun _ => rfl⟩
  case lax =>
    intro e he
    fin_cases he <;> exact ⟨rfl, readsOperand_of_readLines actsAs_laxOp (by decide) fun _ => rfl⟩

/-- Settles O7: the opcode map gives each store the lines of its mode. -/
theorem storesWriteTheRegister : Obligations.StoresWriteTheRegister := by
  unfold Obligations.StoresWriteTheRegister
  refine ⟨?sta, ?stx, ?sty, ?sax⟩
  case sta =>
    intro e he
    fin_cases he <;> exact ⟨rfl, storesOperand_of_writeLines (v := storeA) (fun _ => rfl) rfl fun _ => rfl⟩
  case stx =>
    intro e he
    fin_cases he <;> exact ⟨rfl, storesOperand_of_writeLines (v := storeX) (fun _ => rfl) rfl fun _ => rfl⟩
  case sty =>
    intro e he
    fin_cases he <;> exact ⟨rfl, storesOperand_of_writeLines (v := storeY) (fun _ => rfl) rfl fun _ => rfl⟩
  case sax =>
    intro e he
    fin_cases he <;> exact ⟨rfl, storesOperand_of_writeLines (v := storeAX) (fun _ => rfl) rfl fun _ => rfl⟩

/-- Settles O8: each transfer is one line. -/
theorem transfersCopyRegisters : Obligations.TransfersCopyRegisters := by
  unfold Obligations.TransfersCopyRegisters
  simp only [List.forall_mem_singleton]
  exact ⟨⟨rfl, actsOnRegisters_of_implied actsAs_taxOp fun _ => rfl⟩,
    ⟨rfl, actsOnRegisters_of_implied actsAs_tayOp fun _ => rfl⟩,
    ⟨rfl, actsOnRegisters_of_implied actsAs_txaOp fun _ => rfl⟩,
    ⟨rfl, actsOnRegisters_of_implied actsAs_tyaOp fun _ => rfl⟩,
    ⟨rfl, actsOnRegisters_of_implied actsAs_tsxOp fun _ => rfl⟩,
    ⟨rfl, actsOnRegisters_of_implied actsAs_txsOp fun _ => rfl⟩⟩

end Sys2Proof.Proofs
end

section
/-! SUPPORT. The adder and the decimal algorithms as arithmetic on numbers (R190 to R192). -/

namespace Sys2Proof.Proofs

open Sys2Proof.Machine Sys2Proof.Safety Sys2Proof.Laws

/-! ### Sign bits and the overflow idiom -/

theorem bit7_eq_msb (v : Byte) : bit7 v = v.msb := by rw [bit7, BitVec.msb_eq_getLsbD_last]

theorem msb_eq_decide_le (v : Byte) : v.msb = decide (128 ≤ v.toNat) := BitVec.msb_eq_decide v

/-- A byte as a signed number: seven bits, less 128 for the sign. -/
theorem toInt_eq_mod_sub (v : Byte) : v.toInt = v.toNat % 128 - if v.msb then 128 else 0 := by
  have hv := v.isLt
  rw [BitVec.toInt_eq_msb_cond, msb_eq_decide_le]
  simp only [decide_eq_true_iff]
  split <;> omega

/-- The exclusive-or idiom of R190 asks whether the signs agree with each other and not with the result's. -/
theorem bit7_overflow_idiom (a b r : Byte) :
    bit7 (~~~(a ^^^ b) &&& (a ^^^ r)) = (a.msb == b.msb && a.msb != r.msb) := by
  simp only [bit7_eq_msb, BitVec.msb_and, BitVec.msb_xor, BitVec.msb_not (w := 8), Nat.reduceLT, decide_true,
    Bool.true_and]
  cases a.msb <;> cases b.msb <;> cases r.msb <;> rfl

/-- The two idioms are one. -/
theorem msb_overflow_idiom_symm (a b r : Byte) :
    (~~~(a ^^^ b) &&& (a ^^^ r)).msb = ((a ^^^ r) &&& (b ^^^ r)).msb := by
  simp only [BitVec.msb_and, BitVec.msb_xor, BitVec.msb_not]
  cases a.msb <;> cases b.msb <;> cases r.msb <;> simp

/-- A sum of two bytes and `k` leaves the signed range exactly when the idiom says so, if the low seven bits of the bytes
and `k` sum to eight bits at most. -/
theorem overflow_idiom_eq_out_of_range {a b : Byte} {k : Nat} (hk : a.toNat % 128 + b.toNat % 128 + k < 256) :
    (a.msb == b.msb && a.msb != (BitVec.ofNat 8 (a.toNat + b.toNat + k)).msb) =
      decide (a.toInt + b.toInt + k < -128 ∨ 127 < a.toInt + b.toInt + k) := by
  have ha := a.isLt
  have hb := b.isLt
  rw [toInt_eq_mod_sub, toInt_eq_mod_sub, msb_eq_decide_le (BitVec.ofNat 8 _), BitVec.toNat_ofNat, Bool.eq_iff_iff,
    decide_eq_true_iff]
  -- Two bytes of one sign leave the range exactly when bit 7 of the sum differs from it, two of different signs never.
  cases hsa : a.msb <;> cases hsb : b.msb <;>
    simp only [msb_eq_decide_le, decide_eq_true_iff, decide_eq_false_iff_not] at hsa hsb <;>
    simp <;> omega

/-! ### The adder -/

theorem toNat_carryByte (c : Bool) : (carryByte c).toNat = c.toNat := by cases c <;> rfl

/-- The result of the adder is the sum of bytes. -/
theorem add8_r (a b : Byte) (cin : Bool) : (add8 a b cin).r = a + b + carryByte cin := by
  apply BitVec.eq_of_toNat_eq
  simp [add8, toNat_carryByte]

theorem add8_exact (a b : Byte) (cin : Bool) :
    (add8 a b cin).r.toNat + (if (add8 a b cin).c then 256 else 0) = a.toNat + b.toNat + cin.toNat := by
  have ha := a.isLt
  have hb := b.isLt
  have hc := cin.toNat_lt
  simp only [add8, BitVec.toNat_ofNat, decide_eq_true_iff]
  split <;> omega

theorem add8_v (a b : Byte) (cin : Bool) :
    (add8 a b cin).v = decide (a.toInt + b.toInt + cin.toNat < -128 ∨ 127 < a.toInt + b.toInt + cin.toNat) := by
  have hc := cin.toNat_lt
  exact (bit7_overflow_idiom a b _).trans (overflow_idiom_eq_out_of_range (by omega))

/-- Settles O1: the flags by the idiom are those of the exact sum. -/
theorem adderIsExactSumWithSignOverflow : Obligations.AdderIsExactSumWithSignOverflow := by
  unfold Obligations.AdderIsExactSumWithSignOverflow
  intro a b cin
  have hv : (add8 a b cin).v = (~~~(a ^^^ b) &&& (a ^^^ (add8 a b cin).r)).msb := bit7_eq_msb _
  exact ⟨add8_exact a b cin, hv, hv.trans (msb_overflow_idiom_symm _ _ _), add8_v a b cin, bit7_eq_msb _, rfl⟩

/-! ### The flags of the decimal algorithms, for all bytes -/

/-- The high digit of a byte in its place. -/
theorem toNat_and_highMask (a : Byte) : (a &&& 0xF0).toNat = a.toNat / 16 * 16 := by
  have ha := a.isLt
  have hmask : a &&& (BitVec.allOnes 8 <<< 4) = (a >>> 4) <<< 4 := by
    ext i hi
    simp only [BitVec.getElem_and, BitVec.getElem_shiftLeft, BitVec.getElem_allOnes, BitVec.getElem_ushiftRight]
    by_cases h : i < 4
    · simp [h]
    · simp [h, show 4 + (i - 4) = i by omega, BitVec.getLsbD_eq_getElem hi]
  calc (a &&& 0xF0).toNat = ((a >>> 4) <<< 4).toNat := congrArg BitVec.toNat hmask
    _ = a.toNat / 16 * 16 := by
      simp only [BitVec.toNat_shiftLeft, BitVec.toNat_ushiftRight, Nat.shiftRight_eq_div_pow, Nat.shiftLeft_eq]
      omega

theorem msb_and_highMask (a : Byte) : (a &&& 0xF0).msb = a.msb := by
  rw [BitVec.msb_and]
  exact Bool.and_true _

/-- The low digit of a decimal sum after its adjustment, with its carry to the high digit (R191). -/
def adjustedLow (a b : Byte) (cin : Bool) : Nat :=
  let low := a.toNat % 16 + b.toNat % 16 + cin.toNat
  if 10 ≤ low then (low + 6) % 16 + 16 else low

theorem adjustedLow_lt (a b : Byte) (cin : Bool) : adjustedLow a b cin < 32 := by
  simp only [adjustedLow]
  split <;> omega

/-- The sum of R191 before its high digit is adjusted. -/
def unadjustedSum (a b : Byte) (cin : Bool) : Nat :=
  (a &&& 0xF0).toNat + (b &&& 0xF0).toNat + adjustedLow a b cin

theorem adcDec_n (a b : Byte) (cin : Bool) : (adcDec a b cin).n =
    (a.toNat / 16 * 16 + b.toNat / 16 * 16 + adjustedLow a b cin).testBit 7 := by
  rw [← toNat_and_highMask, ← toNat_and_highMask]
  show bit7 (BitVec.ofNat 8 (unadjustedSum a b cin)) = (unadjustedSum a b cin).testBit 7
  rw [bit7, BitVec.getLsbD_ofNat]
  rfl

theorem adcDec_v (a b : Byte) (cin : Bool) :
    (adcDec a b cin).v =
      decide ((a &&& 0xF0).toInt + (b &&& 0xF0).toInt + adjustedLow a b cin < -128 ∨
        127 < (a &&& 0xF0).toInt + (b &&& 0xF0).toInt + adjustedLow a b cin) := by
  have hlow := adjustedLow_lt a b cin
  have hsigns := bit7_overflow_idiom a b (BitVec.ofNat 8 (unadjustedSum a b cin))
  rw [← msb_and_highMask a, ← msb_and_highMask b] at hsigns
  refine hsigns.trans (overflow_idiom_eq_out_of_range ?_)
  rw [toNat_and_highMask, toNat_and_highMask]
  omega

theorem add8_z (a b : Byte) (cin : Bool) : (add8 a b cin).z = decide (a + b + carryByte cin = 0) := by
  rw [← add8_r]
  rfl

theorem add8_n (a b : Byte) (cin : Bool) : (add8 a b cin).n = (a + b + carryByte cin).msb := by
  rw [← add8_r, ← bit7_eq_msb]
  rfl

/-! ### Decimal digits -/

/-- A byte of two decimal digits. -/
def ofDigits (hi lo : Nat) : Byte := BitVec.ofNat 8 (16 * hi + lo)

section
variable {hi lo : Nat} (hhi : hi < 10) (hlo : lo < 10)
include hhi hlo

theorem toNat_ofDigits : (ofDigits hi lo).toNat = 16 * hi + lo := by
  rw [ofDigits, BitVec.toNat_ofNat]
  omega

theorem highDigit_ofDigits : (ofDigits hi lo &&& 0xF0).toNat = 16 * hi := by
  rw [toNat_and_highMask, toNat_ofDigits hhi hlo]
  omega

theorem lowDigit_ofDigits : (ofDigits hi lo).toNat % 16 = lo := by
  rw [toNat_ofDigits hhi hlo]
  omega

end

/-- R191: the adjusted low digit of a sum, with its carry. -/
theorem adjust_low_sum {low : Nat} (hlow : low < 20) :
    (if 10 ≤ low then (low + 6) % 16 + 16 else low) = 16 * (low / 10) + low % 10 := by
  split <;> omega

/-- R191: the adjusted high digit of a sum, with its carry. -/
theorem adjust_high_sum {hi lo : Nat} (hhi : hi < 20) (hlo : lo < 10) :
    (if 160 ≤ 16 * hi + lo then 16 * hi + lo + 96 else 16 * hi + lo) = 256 * (hi / 10) + (16 * (hi % 10) + lo) := by
  split <;> omega

/-- R192: the adjusted low digit of a difference, with its borrow. -/
theorem adjust_low_diff {low : Int} (hneg : -10 ≤ low) (hpos : low < 10) :
    (if low < 0 then (low - 6) % 16 - 16 else low) = 16 * (low / 10) + low % 10 := by
  split <;> omega

/-- R192: the adjusted high digit of a difference, with its borrow. -/
theorem adjust_high_diff {hi lo : Int} (hneg : -10 ≤ hi) (hpos : hi < 10) (hlo : 0 ≤ lo) (hlo' : lo < 10) :
    (if 16 * hi + lo < 0 then 16 * hi + lo - 96 else 16 * hi + lo) = 256 * (hi / 10) + (16 * (hi % 10) + lo) := by
  split <;> omega

/-- The two digits of a number modulo 100 from its tens and its units. -/
theorem digits_of_tens {tens units : Nat} (h : units < 10) :
    (10 * tens + units) % 100 / 10 = tens % 10 ∧ (10 * tens + units) % 10 = units := by
  omega

section
variable {a1 a0 b1 b0 : Nat} (ha1 : a1 < 10) (ha0 : a0 < 10) (hb1 : b1 < 10) (hb0 : b0 < 10) (cin : Bool)
include ha1 ha0 hb1 hb0

/-- R191 on decimal digits. -/
theorem adcDec_ofDigits :
    let sum := 10 * a1 + a0 + (10 * b1 + b0) + cin.toNat
    let o := adcDec (ofDigits a1 a0) (ofDigits b1 b0) cin
    o.r = ofDigits (sum % 100 / 10) (sum % 10) ∧ o.c = decide (100 ≤ sum) := by
  have hc := cin.toNat_lt
  intro sum
  obtain ⟨low, hlow⟩ : ∃ low, low = a0 + b0 + cin.toNat := ⟨_, rfl⟩
  obtain ⟨tens, htens⟩ : ∃ tens, tens = a1 + b1 + low / 10 := ⟨_, rfl⟩
  have hunits : low % 10 < 10 := by omega
  have hsum : sum = 10 * tens + low % 10 := by omega
  have hregroup : 16 * a1 + 16 * b1 + (16 * (low / 10) + low % 10) = 16 * tens + low % 10 := by omega
  obtain ⟨hhigh, hlast⟩ := digits_of_tens (tens := tens) hunits
  simp only [adcDec, lowDigit_ofDigits ha1 ha0, lowDigit_ofDigits hb1 hb0, highDigit_ofDigits ha1 ha0,
    highDigit_ofDigits hb1 hb0, ← hlow, adjust_low_sum (low := low) (by omega), hregroup,
    adjust_high_sum (hi := tens) (by omega) hunits, hsum, hhigh, hlast]
  constructor
  · apply BitVec.eq_of_toNat_eq
    rw [ofDigits, BitVec.toNat_ofNat, BitVec.toNat_ofNat, Nat.mul_add_mod]
  · rw [decide_eq_decide]
    omega

/-- R192 on decimal digits. -/
theorem sbcDec_ofDigits :
    let diff := 100 + (10 * a1 + a0) + cin.toNat - 1 - (10 * b1 + b0)
    let o := sbcDec (ofDigits a1 a0) (ofDigits b1 b0) cin
    o.r = ofDigits (diff % 100 / 10) (diff % 10) ∧ o.c = decide (100 ≤ diff) := by
  have hc := cin.toNat_lt
  intro diff
  constructor
  · obtain ⟨low, hlow⟩ : ∃ low : Int, low = a0 - b0 + cin.toNat - 1 := ⟨_, rfl⟩
    obtain ⟨tens, htens⟩ : ∃ tens : Int, tens = a1 - b1 + low / 10 := ⟨_, rfl⟩
    have hregroup : ((16 * a1 : Nat) : Int) - (16 * b1 : Nat) + (16 * (low / 10) + low % 10) =
        16 * tens + low % 10 := by omega
    obtain ⟨units, hunits⟩ : ∃ units : Nat, (units : Int) = low % 10 := ⟨(low % 10).toNat, by omega⟩
    obtain ⟨tens', htens'⟩ : ∃ tens' : Nat, (tens' : Int) = tens + 10 := ⟨(tens + 10).toNat, by omega⟩
    have hdiff : diff = 10 * tens' + units := by omega
    obtain ⟨hhigh, hlast⟩ := digits_of_tens (tens := tens') (show units < 10 by omega)
    simp only [sbcDec, lowDigit_ofDigits ha1 ha0, lowDigit_ofDigits hb1 hb0, highDigit_ofDigits ha1 ha0,
      highDigit_ofDigits hb1 hb0, ← hlow, adjust_low_diff (low := low) (by omega) (by omega), hregroup,
      adjust_high_diff (hi := tens) (lo := low % 10) (by omega) (by omega) (by omega) (by omega), hdiff, hhigh, hlast]
    apply BitVec.eq_of_toNat_eq
    have hdigit : tens % 10 = (tens' % 10 : Nat) := by omega
    rw [ofDigits, BitVec.toNat_ofNat, BitVec.toNat_ofInt, hdigit, ← hunits]
    omega
  · simp only [sbcDec, add8, decide_eq_decide, BitVec.toNat_not, toNat_ofDigits ha1 ha0, toNat_ofDigits hb1 hb0]
    omega

end

/-- Settles O2. -/
theorem decimalAdjustIsBcdArithmetic : Obligations.DecimalAdjustIsBcdArithmetic := by
  unfold Obligations.DecimalAdjustIsBcdArithmetic
  refine ⟨?digits, ?flags⟩
  case digits =>
    intro a1 a0 b1 b0 cin ha1 ha0 hb1 hb0
    obtain ⟨hsum, hcarry⟩ := adcDec_ofDigits ha1 ha0 hb1 hb0 cin
    obtain ⟨hdiff, hborrow⟩ := sbcDec_ofDigits ha1 ha0 hb1 hb0 cin
    exact ⟨hsum, hcarry, hdiff, hborrow⟩
  case flags =>
    exact fun a b cin => ⟨adcDec_n a b cin, adcDec_v a b cin, add8_z a b cin, rfl, rfl, add8_n a (~~~b) cin,
      add8_z a (~~~b) cin⟩

end Sys2Proof.Proofs
end

section
/-! SUPPORT. The read-modify-write class (R121) in every mode: the operand is read, written back, and written
modified. -/

namespace Sys2Proof.Proofs

open Sys2Proof.Machine Sys2Proof.Safety Sys2Proof.Laws

/-! ### Operations on an operand and registers -/

/-- The operation gives the byte and the registers that `f` gives, in its two parts together, and changes nothing else;
the I flag, which the last write polls with, is not among the flags that its first part sets. -/
structure ModifiesAs (op : RmwOp) (f : Byte → RegFile → Byte × RegFile) : Prop where
  plain : PlainRmw op
  byte : ∀ v u, (op.modify v u).1 = (f v (regs u)).1
  registers : ∀ v u w, regs w = regs (op.modify v u).2 → regs (op.after (op.modify v u).1 w) = (f v (regs u)).2
  pollI : ∀ v u, (op.modify v u).2.p.i = u.p.i := by intros; rfl
  modify_pc : ∀ v u, (op.modify v u).2.pc = u.pc := by intros; rfl
  modify_ea : ∀ v u, (op.modify v u).2.ea = u.ea := by intros; rfl
  modify_opr : ∀ v u, (op.modify v u).2.opr = u.opr := by intros; rfl
  after_pc : ∀ v u, (op.after v u).pc = u.pc := by intros; rfl
  after_ea : ∀ v u, (op.after v u).ea = u.ea := by intros; rfl
  after_opr : ∀ v u, (op.after v u).opr = u.opr := by intros; rfl

/-! ### The three lines -/

/-- The line that reads the operand at EA into OPR. -/
def readToModify : Micro where
  txn := fun s => readTxn s.ea
  after := fun d s => { s with opr := d }

/-- The line that writes the unmodified byte, and modifies it. -/
def writeUnmodified (op : RmwOp) : Micro where
  txn := fun s => writeTxn s.ea s.opr
  after := fun _ s =>
    let out := op.modify s.opr s
    { out.2 with latch := { out.2.latch with r := out.1 } }

/-- The line that writes the modified byte. -/
def writeModified (op : RmwOp) : Micro where
  txn := fun s => writeTxn s.ea s.latch.r
  after := fun _ s => op.after s.latch.r s

theorem modifyEa_eq (op : RmwOp) : modifyEa op = [readToModify, writeUnmodified op, writeModified op] := rfl

/-- The lines of a read-modify-write instruction (R124 to R126, R129, R130, R133). -/
def modifyLines (m : Mode) (op : RmwOp) : List Micro := addressLines m ++ dummyLines m ++ modifyEa op

/-- The state that the first write finds: the operand in OPR. -/
def operandRead (u : State) : State := afterLine readToModify u

/-- The state that the second write finds: the modified byte latched, the flags set. -/
def modified (op : RmwOp) (u : State) : State := afterLine (writeUnmodified op) (operandRead u)

section
variable {op : RmwOp} {f : Byte → RegFile → Byte × RegFile} (h : ModifiesAs op f) (u : State)
include h

theorem modified_ea : (modified op u).ea = u.ea := h.modify_ea _ _

theorem modified_i : (modified op u).p.i = u.p.i := h.pollI _ _

theorem modified_r : (modified op u).latch.r = (f (peek u u.ea) (regs u)).1 := h.byte _ _

/-- R121: the transactions from the read of the operand on; the flags set in between do not reach the last poll. -/
theorem runs_modifyEa : Runs (modifyEa op) u
    [rd u u.ea, wr u.ea (peek u u.ea), wr u.ea (f (peek u u.ea) (regs u)).1] u.p.i
      (afterLine (writeModified op) (modified op u)) := by
  have hlast : Runs [writeModified op] (modified op u) [wr (modified op u).ea (modified op u).latch.r]
      (modified op u).p.i (afterLine (writeModified op) (modified op u)) := .last (.inl rfl)
  rw [modified_ea h, modified_r h, modified_i h] at hlast
  exact .next (.next hlast)

/-- What the three lines leave: the registers by `f`, the operand in OPR. -/
theorem leaves_modifyEa (log : List Access) (i : Bool) :
    Leaves ⟨log, (f (peek u u.ea) (regs u)).2, u.pc, i, peek u u.ea, some u.ea⟩
      (afterLine (writeModified op) (modified op u)) where
  registers := h.registers _ _ _ rfl
  pc := (h.after_pc _ _).trans (h.modify_pc _ _)
  opr := (h.after_opr _ _).trans (h.modify_opr _ _)
  ea := by
    rintro _ ⟨⟩
    exact (h.after_ea _ _).trans (modified_ea h u)

/-- A read-modify-write instruction completes in every mode that forms an address (R98). -/
theorem modifiesOperand_of_modifyLines {i : Instr} {m : Mode} (hm : formsAddress m = true)
    (he : ∀ s, exec i s = runInstr (modifyLines m op) s) : ModifiesOperand i m f := by
  intro s hs
  have hf := formsEa_effective hm
  have hu := hf.forms s
  have hd : ∀ u : State, Formed m (effective m s) s u → peek u u.ea = operand m s := fun u hu => by
    rw [hu.peek_eq, hu.ea, operand]
  have hruns := runs_modifyEa h (afterLines (addressLines m ++ dummyLines m) s)
  have hleaves := leaves_modifyEa h (afterLines (addressLines m ++ dummyLines m) s)
    (modifyLog m s (f (operand m s) (regs s)).1) s.p.i
  rw [← hu.rd_eq, hd _ hu, hu.ea, hu.registers, hu.i_eq] at hruns
  rw [hd _ hu, hu.ea, hu.registers, hu.pc] at hleaves
  exact hf.ends hs (he s) (allPlain_modifyEa h.plain) (show 3 ≤ 3 by decide) rfl hruns hleaves

end

end Sys2Proof.Proofs
end

section
/-! SUPPORT. Arithmetic, logic, compares, increments and shifts (R193 to R212, R285), in every mode. -/

namespace Sys2Proof.Proofs

open Sys2Proof.Machine Sys2Proof.Safety Sys2Proof.Laws

/-! ### Flags as the statements say them -/

theorem decimal_iff (p : Flags) : p.decimal = true ↔ Config.decimalEnabled = true ∧ p.d = true := by
  rw [Flags.decimal, Bool.and_eq_true, and_comm]

theorem cmp_eq (p : Flags) (reg m : Byte) : p.cmp reg m = compared p reg m := by
  rw [Flags.cmp, setNZ_eq, compared]
  rfl

theorem bit_seven (c : Bool) : bit c 7 = carryByte c <<< 7 := by cases c <;> rfl

theorem aslOut_eq (p : Flags) (v : Byte) : aslOut p v = (v <<< 1, { nz p (v <<< 1) with c := v.msb }) := by
  rw [aslOut, setNZ_eq, BitVec.msb_eq_getLsbD_last]

theorem lsrOut_eq (p : Flags) (v : Byte) : lsrOut p v = (v >>> 1, { nz p (v >>> 1) with c := v.getLsbD 0 }) := by
  rw [lsrOut, setNZ_eq]

theorem rolOut_eq (p : Flags) (v : Byte) : rolOut p v =
    (v <<< 1 ||| carryByte p.c, { nz p (v <<< 1 ||| carryByte p.c) with c := v.msb }) := by
  rw [rolOut, setNZ_eq, bit_zero, BitVec.msb_eq_getLsbD_last]

theorem rorOut_eq (p : Flags) (v : Byte) : rorOut p v =
    (v >>> 1 ||| carryByte p.c <<< 7, { nz p (v >>> 1 ||| carryByte p.c <<< 7) with c := v.getLsbD 0 }) := by
  rw [rorOut, setNZ_eq, bit_seven]

/-! ### The operations of the read class -/

theorem actsAs_adcOp (v : Byte) : ActsAs (adcOp v) fun r => added v r where
  kept := plainOp_adcOp v
  registers u := by
    show withAlu (adcOut u.p u.a v) (regs u) = added v (regs u)
    simp only [adcOut, added, ← decimal_iff]
    exact apply_ite (withAlu · (regs u)) _ _ _

theorem actsAs_sbcOp (v : Byte) : ActsAs (sbcOp v) fun r => subtracted v r where
  kept := plainOp_sbcOp v
  registers u := by
    show withAlu (sbcOut u.p u.a v) (regs u) = subtracted v (regs u)
    simp only [sbcOut, subtracted, ← decimal_iff]
    exact apply_ite (withAlu · (regs u)) _ _ _

theorem actsAs_andOp (v : Byte) : ActsAs (andOp v) fun r => { r with a := r.a &&& v, p := nz r.p (r.a &&& v) } where
  kept := plainOp_andOp v
  registers u := by rw [← setNZ_eq]; rfl

theorem actsAs_oraOp (v : Byte) : ActsAs (oraOp v) fun r => { r with a := r.a ||| v, p := nz r.p (r.a ||| v) } where
  kept := plainOp_oraOp v
  registers u := by rw [← setNZ_eq]; rfl

theorem actsAs_eorOp (v : Byte) : ActsAs (eorOp v) fun r => { r with a := r.a ^^^ v, p := nz r.p (r.a ^^^ v) } where
  kept := plainOp_eorOp v
  registers u := by rw [← setNZ_eq]; rfl

theorem actsAs_cmpOp (v : Byte) : ActsAs (cmpOp v) fun r => { r with p := compared r.p r.a v } where
  kept := plainOp_cmpOp v
  registers u := by rw [← cmp_eq]; rfl

theorem actsAs_cpxOp (v : Byte) : ActsAs (cpxOp v) fun r => { r with p := compared r.p r.x v } where
  kept := plainOp_cpxOp v
  registers u := by rw [← cmp_eq]; rfl

theorem actsAs_cpyOp (v : Byte) : ActsAs (cpyOp v) fun r => { r with p := compared r.p r.y v } where
  kept := plainOp_cpyOp v
  registers u := by rw [← cmp_eq]; rfl

theorem actsAs_bitOp (v : Byte) : ActsAs (bitOp v) fun r =>
    { r with p := { r.p with n := v.getLsbD 7, v := v.getLsbD 6, z := decide (r.a &&& v = 0) } } where
  kept := plainOp_bitOp v
  registers _ := rfl

/-! ### The operations on registers alone -/

theorem actsAs_inxOp : ActsAs inxOp fun r => { r with x := r.x + 1, p := nz r.p (r.x + 1) } where
  kept := kept_inxOp
  registers u := by rw [← setNZ_eq]; rfl

theorem actsAs_inyOp : ActsAs inyOp fun r => { r with y := r.y + 1, p := nz r.p (r.y + 1) } where
  kept := kept_inyOp
  registers u := by rw [← setNZ_eq]; rfl

theorem actsAs_dexOp : ActsAs dexOp fun r => { r with x := r.x - 1, p := nz r.p (r.x - 1) } where
  kept := kept_dexOp
  registers u := by rw [← setNZ_eq]; rfl

theorem actsAs_deyOp : ActsAs deyOp fun r => { r with y := r.y - 1, p := nz r.p (r.y - 1) } where
  kept := kept_deyOp
  registers u := by rw [← setNZ_eq]; rfl

/-- Accumulator mode (R122): a shift or rotate that gives the byte and the flags of `g`. -/
theorem actsOnRegisters_of_accumulator {i : Instr} {out g : Flags → Byte → Byte × Flags} (hg : ∀ p v, out p v = g p v)
    (he : ∀ s, exec i s = runInstr (accumulator out) s) :
    ActsOnRegisters i fun r => { r with a := (g r.p r.a).1, p := (g r.p r.a).2 } := by
  obtain rfl : out = g := funext₂ hg
  exact actsOnRegisters_of_implied { kept := fun _ => by constructor <;> rfl, registers := fun _ => rfl } he

/-! ### The operations of the read-modify-write class -/

theorem modifiesAs_incOp : ModifiesAs incOp fun v r => (v + 1, { r with p := nz r.p (v + 1) }) where
  plain := plainRmw_incOp
  byte _ _ := rfl
  registers v u w hw := by rw [← setNZ_eq]; exact hw

theorem modifiesAs_decOp : ModifiesAs decOp fun v r => (v - 1, { r with p := nz r.p (v - 1) }) where
  plain := plainRmw_decOp
  byte _ _ := rfl
  registers v u w hw := by rw [← setNZ_eq]; exact hw

/-- A shift or rotate in memory that gives the byte and the flags of `g`, of which I is not one. -/
theorem modifiesAs_modifyBy {out g : Flags → Byte → Byte × Flags} (hg : ∀ p v, out p v = g p v)
    (hi : ∀ p v, (g p v).2.i = p.i) :
    ModifiesAs { modify := modifyBy out } fun v r => ((g r.p v).1, { r with p := (g r.p v).2 }) := by
  obtain rfl : out = g := funext₂ hg
  exact
    { plain := ⟨fun _ _ => by constructor <;> rfl, fun _ u => Kept.refl u⟩
      byte := fun _ _ => rfl
      registers := fun _ _ _ hw => hw
      pollI := fun _ _ => hi _ _ }

/-! ### The statements -/

/-- Settles O9: the opcode map gives each addition and subtraction the lines of its mode. -/
theorem addAndSubtractFollowTheAdder : Obligations.AddAndSubtractFollowTheAdder := by
  unfold Obligations.AddAndSubtractFollowTheAdder
  refine ⟨?adc, ?sbc, ?usbc⟩
  case adc =>
    intro e he
    fin_cases he <;> exact ⟨rfl, readsOperand_of_readLines actsAs_adcOp (by decide) fun _ => rfl⟩
  case sbc =>
    intro e he
    fin_cases he <;> exact ⟨rfl, readsOperand_of_readLines actsAs_sbcOp (by decide) fun _ => rfl⟩
  case usbc =>
    exact List.forall_mem_singleton.mpr ⟨rfl, readsOperand_of_readLines actsAs_sbcOp (by decide) fun _ => rfl⟩

/-- Settles O10: the opcode map gives each logic instruction the lines of its mode. -/
theorem logicWritesAccumulatorAndNZ : Obligations.LogicWritesAccumulatorAndNZ := by
  unfold Obligations.LogicWritesAccumulatorAndNZ
  refine ⟨?and, ?ora, ?eor⟩
  case and =>
    intro e he
    fin_cases he <;> exact ⟨rfl, readsOperand_of_readLines actsAs_andOp (by decide) fun _ => rfl⟩
  case ora =>
    intro e he
    fin_cases he <;> exact ⟨rfl, readsOperand_of_readLines actsAs_oraOp (by decide) fun _ => rfl⟩
  case eor =>
    intro e he
    fin_cases he <;> exact ⟨rfl, readsOperand_of_readLines actsAs_eorOp (by decide) fun _ => rfl⟩

/-- Settles O11: the opcode map gives each compare the lines of its mode. -/
theorem comparesWriteOnlyNZC : Obligations.ComparesWriteOnlyNZC := by
  unfold Obligations.ComparesWriteOnlyNZC
  refine ⟨?cmp, ?cpx, ?cpy⟩
  case cmp =>
    intro e he
    fin_cases he <;> exact ⟨rfl, readsOperand_of_readLines actsAs_cmpOp (by decide) fun _ => rfl⟩
  case cpx =>
    intro e he
    fin_cases he <;> exact ⟨rfl, readsOperand_of_readLines actsAs_cpxOp (by decide) fun _ => rfl⟩
  case cpy =>
    intro e he
    fin_cases he <;> exact ⟨rfl, readsOperand_of_readLines actsAs_cpyOp (by decide) fun _ => rfl⟩

/-- Settles O12: both forms of BIT. -/
theorem bitTestTakesNVFromMemory : Obligations.BitTestTakesNVFromMemory := by
  unfold Obligations.BitTestTakesNVFromMemory
  intro e he
  fin_cases he <;> exact ⟨rfl, readsOperand_of_readLines actsAs_bitOp (by decide) fun _ => rfl⟩

/-- Settles O13: the opcode map gives INC and DEC the lines of their modes. -/
theorem incDecMemoryWritesTwice : Obligations.IncDecMemoryWritesTwice := by
  unfold Obligations.IncDecMemoryWritesTwice
  refine ⟨?inc, ?dec⟩
  case inc =>
    intro e he
    fin_cases he <;> exact ⟨rfl, modifiesOperand_of_modifyLines modifiesAs_incOp rfl fun _ => rfl⟩
  case dec =>
    intro e he
    fin_cases he <;> exact ⟨rfl, modifiesOperand_of_modifyLines modifiesAs_decOp rfl fun _ => rfl⟩

/-- Settles O14: each increment or decrement of a register is one line. -/
theorem incDecRegisterWraps : Obligations.IncDecRegisterWraps := by
  unfold Obligations.IncDecRegisterWraps
  simp only [List.forall_mem_singleton]
  exact ⟨⟨rfl, actsOnRegisters_of_implied actsAs_inxOp fun _ => rfl⟩,
    ⟨rfl, actsOnRegisters_of_implied actsAs_inyOp fun _ => rfl⟩,
    ⟨rfl, actsOnRegisters_of_implied actsAs_dexOp fun _ => rfl⟩,
    ⟨rfl, actsOnRegisters_of_implied actsAs_deyOp fun _ => rfl⟩⟩

/-- Settles O15: the opcode map gives each shift and rotate the lines of its mode. -/
theorem shiftsAndRotatesSetCarryFromOldByte : Obligations.ShiftsAndRotatesSetCarryFromOldByte := by
  unfold Obligations.ShiftsAndRotatesSetCarryFromOldByte
  refine ⟨?asl, ?aslAcc, ?lsr, ?lsrAcc, ?rol, ?rolAcc, ?ror, ?rorAcc⟩
  case asl =>
    have h := modifiesAs_modifyBy aslOut_eq fun _ _ => rfl
    intro e he
    fin_cases he <;> exact ⟨rfl, modifiesOperand_of_modifyLines h rfl fun _ => rfl⟩
  case lsr =>
    have h := modifiesAs_modifyBy lsrOut_eq fun _ _ => rfl
    intro e he
    fin_cases he <;> exact ⟨rfl, modifiesOperand_of_modifyLines h rfl fun _ => rfl⟩
  case rol =>
    have h := modifiesAs_modifyBy rolOut_eq fun _ _ => rfl
    intro e he
    fin_cases he <;> exact ⟨rfl, modifiesOperand_of_modifyLines h rfl fun _ => rfl⟩
  case ror =>
    have h := modifiesAs_modifyBy rorOut_eq fun _ _ => rfl
    intro e he
    fin_cases he <;> exact ⟨rfl, modifiesOperand_of_modifyLines h rfl fun _ => rfl⟩
  case aslAcc => exact List.forall_mem_singleton.mpr ⟨rfl, actsOnRegisters_of_accumulator aslOut_eq fun _ => rfl⟩
  case lsrAcc => exact List.forall_mem_singleton.mpr ⟨rfl, actsOnRegisters_of_accumulator lsrOut_eq fun _ => rfl⟩
  case rolAcc => exact List.forall_mem_singleton.mpr ⟨rfl, actsOnRegisters_of_accumulator rolOut_eq fun _ => rfl⟩
  case rorAcc => exact List.forall_mem_singleton.mpr ⟨rfl, actsOnRegisters_of_accumulator rorOut_eq fun _ => rfl⟩

end Sys2Proof.Proofs
end

section
/-! SUPPORT. Sequences whose last transaction is suspended (R316): the lines before it run and poll, the last one leaves
the sampler as it finds it. -/

namespace Sys2Proof.Proofs

open Sys2Proof.Machine Sys2Proof.Safety Sys2Proof.Laws

/-! ### The sampler across a suspended transaction -/

/-- The sampler of `t` is that of `s`: nothing has polled. -/
def Unpolled (s t : State) : Prop :=
  t.nmiPrev = s.nmiPrev ∧ t.nmiPending = s.nmiPending ∧ t.intPending = s.intPending ∧ t.intVector = s.intVector

theorem Unpolled.trans {s t u : State} (hst : Unpolled s t) (htu : Unpolled t u) : Unpolled s u := by
  obtain ⟨hprev, hpend, hint, hvector⟩ := hst
  obtain ⟨hprev', hpend', hint', hvector'⟩ := htu
  exact ⟨hprev'.trans hprev, hpend'.trans hpend, hint'.trans hint, hvector'.trans hvector⟩

theorem unpolled_of_kept {s t : State} (h : Kept s t) : Unpolled s t :=
  ⟨h.nmiPrev, h.nmiPending, h.intPending, h.intVector⟩

/-- R316: a transaction marked `[S]` does not poll. -/
theorem unpolled_afterTxn (t : Txn) (s : State) : Unpolled s (afterTxn true t s) := by
  have hp : polled true s = { s with suspend := true } := by simp only [polled, Bool.or_true, if_true]
  simp only [Unpolled, afterTxn, hp, and_self]

theorem unpolled_afterLine {m : Micro} {s : State} (hm : Plain m) (hsus : m.sus s = true) :
    Unpolled s (afterLine m s) := by
  have hk : Kept (afterTxn true (m.txn s) s) (afterLine m s) := hsus ▸ hm.after _ _
  exact (unpolled_afterTxn _ s).trans (unpolled_of_kept hk)

/-- With the lines held a poll finds what the poll before it found, so it changes nothing. -/
theorem sampled_of_unpolled {i : Bool} {s t u : State} (hs : Sampled i s t) (hnmi : t.nmiLine = s.nmiLine)
    (hirq : t.irqLines = s.irqLines) (hu : Unpolled t u) : Sampled i t u := by
  obtain ⟨hprev, -, hint, hvector⟩ := hs
  obtain ⟨hprev', hpend', hint', hvector'⟩ := hu
  have hnoEdge : (t.nmiLine && !t.nmiPrev) = false := by rw [hprev, hnmi, Bool.and_not_self]
  refine ⟨?_, ?_, ?_, ?_⟩
  · rw [hprev', hprev, hnmi]
  · rw [hpend', hnoEdge, Bool.or_false]
  · rw [hint', hint, hpend', hirq]
  · rw [hvector', hvector, hpend']

/-! ### One suspended line -/

theorem performed_of_kept {log : List Access} {s t u : State} (h : Performed log s t) (hk : Kept t u) :
    Performed log s u where
  history := hk.history.trans h.history
  sched := hk.sched.trans h.sched
  memory a := (congrArg (Memory.read · a.toNat) hk.mem).trans (h.memory a)
  canonical := hk.mem ▸ h.canonical

/-- After a run that polled, a suspended line leaves the sampler as that run's last poll left it. -/
theorem Ran.afterLine_suspended {log : List Access} {i : Bool} {m : Micro} {s t : State} (h : Ran log i s t)
    (hstart : Starts m t) (hm : Plain m) (hsus : m.sus t = true) :
    Ran (log ++ [access m t]) i s (afterLine m t) := by
  have hk : Kept (afterTxn true (m.txn t) t) (afterLine m t) := hsus ▸ hm.after _ _
  have hline : Ran [access m t] i t (afterLine m t) :=
    { resetReq := hk.resetReq
      performed := performed_of_kept (performed_afterTxn hstart true) hk
      sampled :=
        sampled_of_unpolled h.sampled h.untouched.nmiLine h.untouched.irqLines (unpolled_afterLine hm hsus)
      untouched :=
        { ir := hk.ir
          nmiLine := hk.nmiLine
          irqLines := hk.irqLines
          run := hk.run
          active := hk.active
          others := hk.others
          devices := hk.devices
          report := hk.report
          driver := hk.driver
          boundary := rfl
          latch := rfl
          polls := hk.suspend } }
  exact h.trans hline

/-! ### The first lines of a sequence -/

/-- The first lines, all of them polling, run from `s` to `t`: they make the transactions of `log`, the last of these
polls with the I flag `i`, and the lines `tail` are still to come. -/
inductive Reaches : List Micro → State → List Access → Bool → List Micro → State → Prop
  | one {m : Micro} {tail : List Micro} {s : State} (hends : m.ends (afterLine m s) = false := by rfl)
      (hsus : m.sus s = false := by rfl) : Reaches (m :: tail) s [access m s] s.p.i tail (afterLine m s)
  | next {m : Micro} {rest tail : List Micro} {s t : State} {log : List Access} {i : Bool}
      (hrest : Reaches rest (afterLine m s) log i tail t) (hends : m.ends (afterLine m s) = false := by rfl)
      (hsus : m.sus s = false := by rfl) : Reaches (m :: rest) s (access m s :: log) i tail t

theorem Reaches.suffix {lines tail : List Micro} {s t : State} {log : List Access} {i : Bool}
    (h : Reaches lines s log i tail t) : tail <:+ lines := by
  induction h with
  | one => exact List.suffix_cons _ _
  | next _ _ _ ih => exact ih.trans (List.suffix_cons _ _)

/-- A run finds polling enabled and no stall cycles pending for the next line. -/
theorem Ran.starts {log : List Access} {i : Bool} {s t : State} (h : Ran log i s t) (m : Micro) : Starts m t where
  canonical := h.performed.canonical
  polls := h.untouched.polls
  stall := .inr (congrArg Sched.stallPending h.performed.sched)

/-- Where the budget covers the lines, the sequencer goes on with those still to come. -/
theorem Reaches.runFrom_eq {lines tail : List Micro} {s t : State} {log : List Access} {i : Bool}
    (h : Reaches lines s log i tail t) (hl : AllPlain lines) (hc : Covers lines.length s)
    (hs : ∀ m ∈ lines.head?, Starts m s) (q : SeqKind) (k : Nat) :
    (∃ k', runFrom q k lines s = runFrom q k' tail t) ∧ Ran log i s t ∧ Covers tail.length t := by
  induction h generalizing k with
  | @one m tail s hends hsus =>
    have hm := hl m List.mem_cons_self
    refine ⟨⟨k + 1, ?_⟩, ran_afterLine (hs m rfl) hm hsus, hc.afterLine hm⟩
    rw [runFrom_cons_plain q k tail hm hc.plain (hc.due_lt _), hends]
    rfl
  | @next m rest tail s t log i hrest hends hsus ih =>
    obtain ⟨hm, hrestPlain⟩ := List.forall_mem_cons.mp hl
    have hline := ran_afterLine (hs m rfl) hm hsus
    obtain ⟨⟨k', heq⟩, hran, hcovers⟩ :=
      ih hrestPlain (hc.afterLine hm) (fun m' _ => hline.starts m') (k + 1)
    refine ⟨⟨k', ?_⟩, hline.trans hran, hcovers⟩
    rw [runFrom_cons_plain q k rest hm hc.plain (hc.due_lt _), hends]
    exact heq

/-- Lines that poll and go on reach whatever follows them. -/
theorem reaches_of_goesOn (tail : List Micro) {m : Micro} {rest : List Micro} (s : State)
    (h : ∀ l ∈ m :: rest, GoesOn l) :
    Reaches (m :: rest ++ tail) s (accesses (m :: rest) s) (afterLines (m :: rest).dropLast s).p.i tail
      (afterLines (m :: rest) s) := by
  induction rest generalizing m s with
  | nil =>
    obtain ⟨hsus, hends⟩ := h m List.mem_cons_self
    exact .one (hends _) (hsus s)
  | cons m' rest ih =>
    obtain ⟨⟨hsus, hends⟩, hrest⟩ := List.forall_mem_cons.mp h
    exact .next (ih _ hrest) (hends _) (hsus s)

/-- The first `n` lines, when they poll and go on, reach the others. -/
theorem reaches_take {n : Nat} {lines : List Micro} (s : State) (hne : lines.take n ≠ [])
    (h : ∀ m ∈ lines.take n, GoesOn m) :
    Reaches lines s (accesses (lines.take n) s) (afterLines (lines.take n).dropLast s).p.i (lines.drop n)
      (afterLines (lines.take n) s) := by
  obtain ⟨m, rest, hlines⟩ := List.exists_cons_of_ne_nil hne
  have hreaches := reaches_of_goesOn (lines.drop n) s (hlines ▸ h)
  rwa [← hlines, List.take_append_drop] at hreaches

/-- Such lines, when nothing follows them, are a whole run. -/
theorem runs_of_goesOn {m : Micro} {rest : List Micro} (s : State) (h : ∀ l ∈ m :: rest, GoesOn l) :
    Runs (m :: rest) s (accesses (m :: rest) s) (afterLines (m :: rest).dropLast s).p.i (afterLines (m :: rest) s) := by
  induction rest generalizing m s with
  | nil => exact .last (.inl rfl) ((h m List.mem_cons_self).1 s)
  | cons m' rest ih =>
    obtain ⟨⟨hsus, hends⟩, hrest⟩ := List.forall_mem_cons.mp h
    exact .next (ih _ hrest) (hends _) (hsus s)

/-! ### Completion -/

theorem covers_of_ready {s : State} (hs : Ready s) {n : Nat} (hn : n ≤ 7) : Covers n s :=
  ⟨hs.plain, by have := hs.budget; omega⟩

theorem starts_of_ready {s : State} (hs : Ready s) {lines : List Micro}
    (hread : lines.head?.map (fun m => (m.txn s).dir) = some .read) : ∀ m ∈ lines.head?, Starts m s := by
  intro m hm
  rw [Option.mem_def.mp hm] at hread
  exact ⟨hs.canonical, hs.polls, .inl (Option.some.inj hread)⟩

section
variable {i : Instr} {lines : List Micro} {s : State} {e : Effect} (hs : Ready s) (hl : AllPlain lines)
  (hlen : lines.length ≤ 7) (hread : lines.head?.map (fun m => (m.txn s).dir) = some .read)
include hs hl hlen hread

/-- Memory as the lines still to come find it. -/
theorem Reaches.peek_eq {tail : List Micro} {t : State} {log : List Access} {i : Bool}
    (h : Reaches lines s log i tail t) (a : Word) : peek t a = written log a (peek s a) :=
  (h.runFrom_eq hl (covers_of_ready hs hlen) (starts_of_ready hs hread) .instr 1).2.1.performed.memory a

/-- An instruction whose last line is suspended completes from a ready state. -/
theorem ends_of_suspended {m : Micro} {rest : List Micro} {log : List Access} {t : State}
    (he : exec i s = runInstr lines s) (h : Reaches lines s log e.pollI (m :: rest) t) (hsus : m.sus t = true)
    (hend : rest = [] ∨ m.ends (afterLine m t) = true) (hlog : e.log = log ++ [access m t])
    (hleaves : Leaves e (afterLine m t)) : Ends i s e := by
  have hm : Plain m := hl m (h.suffix.subset List.mem_cons_self)
  obtain ⟨⟨k, heq⟩, hran, hcovers⟩ :=
    h.runFrom_eq hl (covers_of_ready hs hlen) (starts_of_ready hs hread) .instr 1
  have hlast : runFrom .instr k (m :: rest) t = .next (finish (afterLine m t)) := by
    rw [runFrom_cons_plain _ k rest hm hcovers.plain (hcovers.due_lt _)]
    obtain rfl | hend := hend
    · exact ite_self _
    · exact if_pos hend
  have hall := hlog ▸ hran.afterLine_suspended (hran.starts m) hm hsus
  refine ⟨finish (afterLine m t), ?_, ?_⟩
  · rw [he, runInstr, runSeq_boundary hs.boundary, heq, hlast]
  · exact
      { registers := hleaves.registers
        pc := hleaves.pc
        opr := hleaves.opr
        ea := hleaves.ea
        resetReq := hall.resetReq
        performed := ⟨hall.performed.history, hall.performed.sched, hall.performed.memory, hall.performed.canonical⟩
        sampled := hall.sampled
        untouched := hall.untouched }

/-- An instruction whose lines all poll, none of them ending it early, completes from a ready state. -/
theorem ends_of_goesOn (he : exec i s = runInstr lines s) (hgo : ∀ m ∈ lines, GoesOn m)
    (hlog : accesses lines s = e.log) (hpoll : (afterLines lines.dropLast s).p.i = e.pollI)
    (hleaves : Leaves e (afterLines lines s)) : Ends i s e := by
  refine ends_of_runsTo hs he hl hlen hread ⟨_, ?_, hleaves⟩
  rw [← hlog, ← hpoll]
  cases lines with
  | nil => cases hread
  | cons m rest => exact runs_of_goesOn s hgo

end

end Sys2Proof.Proofs
end

section
/-! SUPPORT. Stack, flag and control instructions, and the NOPs (R230 to R257, R292), as their lines run from a ready
state. -/

namespace Sys2Proof.Proofs

open Sys2Proof.Machine Sys2Proof.Safety Sys2Proof.Laws

/-! ### The shared lines poll and never end their sequence -/

@[simp] theorem goesOn_mk (txn : State → Txn) (after : Byte → State → State) :
    GoesOn { txn := txn, after := after } :=
  ⟨fun _ => rfl, fun _ => rfl⟩

@[simp] theorem goesOn_dummyPc : GoesOn dummyPc := ⟨fun _ => rfl, fun _ => rfl⟩
@[simp] theorem goesOn_dummyStack : GoesOn dummyStack := ⟨fun _ => rfl, fun _ => rfl⟩
@[simp] theorem goesOn_dummyStackInc : GoesOn dummyStackInc := ⟨fun _ => rfl, fun _ => rfl⟩
@[simp] theorem goesOn_fetchByte (f : Byte → State → State) : GoesOn (fetchByte f) := ⟨fun _ => rfl, fun _ => rfl⟩
@[simp] theorem goesOn_pushByte (v : State → Byte) (f : State → State) : GoesOn (pushByte v f) :=
  ⟨fun _ => rfl, fun _ => rfl⟩
@[simp] theorem goesOn_pullInc (f : Byte → State → State) : GoesOn (pullInc f) := ⟨fun _ => rfl, fun _ => rfl⟩
@[simp] theorem goesOn_pullLast (f : Byte → State → State) : GoesOn (pullLast f) := ⟨fun _ => rfl, fun _ => rfl⟩
@[simp] theorem goesOn_vectorLo (vec : State → Word) : GoesOn (vectorLo vec) := ⟨fun _ => rfl, fun _ => rfl⟩

/-! ### The shared lines: the transaction of each, and the state after it -/

/-- A page-1 address (R67) as the sequencer computes it. -/
theorem stackAt_eq_word (b : Byte) : stackAt b = word 1 b := (word_eq_append 1 b).symm

section
variable (s : State)

@[simp] theorem access_read (addr : State → Word) (sus ends : State → Bool) (after : Byte → State → State) :
    access ⟨fun u => readTxn (addr u), sus, after, ends⟩ s = rd s (addr s) := rfl

@[simp] theorem afterLine_read (addr : State → Word) (sus ends : State → Bool) (after : Byte → State → State) :
    afterLine ⟨fun u => readTxn (addr u), sus, after, ends⟩ s =
      after (peek s (addr s)) (afterTxn (sus s) (readTxn (addr s)) s) := rfl

@[simp] theorem access_dummyPc : access dummyPc s = rd s s.pc := rfl

@[simp] theorem access_fetchByte (f : Byte → State → State) : access (fetchByte f) s = rd s s.pc := rfl

@[simp] theorem access_dummyStack : access dummyStack s = rd s (stackAt s.s) := by
  rw [← stackAddr_eq]; rfl

@[simp] theorem access_dummyStackInc : access dummyStackInc s = rd s (stackAt s.s) := by
  rw [← stackAddr_eq]; rfl

@[simp] theorem access_pullInc (f : Byte → State → State) : access (pullInc f) s = rd s (stackAt s.s) := by
  rw [← stackAddr_eq]; rfl

@[simp] theorem access_pullLast (f : Byte → State → State) : access (pullLast f) s = rd s (stackAt s.s) := by
  rw [← stackAddr_eq]; rfl

@[simp] theorem access_pushByte (v : State → Byte) (f : State → State) :
    access (pushByte v f) s = wr (stackAt s.s) (v s) := by
  rw [← stackAddr_eq]; rfl

@[simp] theorem access_vectorLo (vec : State → Word) : access (vectorLo vec) s = rd s (vec s) := rfl

@[simp] theorem access_vectorHi (vec : State → Word) : access (vectorHi vec) s = rd s (vec s + 1) := rfl

@[simp] theorem afterLine_dummyPc : afterLine dummyPc s = afterTxn false (readTxn s.pc) s := rfl

@[simp] theorem afterLine_fetchByte (f : Byte → State → State) :
    afterLine (fetchByte f) s = f (peek s s.pc) { afterTxn false (readTxn s.pc) s with pc := s.pc + 1 } := rfl

@[simp] theorem afterLine_dummyStack : afterLine dummyStack s = afterTxn false (readTxn (stackAt s.s)) s := by
  rw [← stackAddr_eq]; rfl

@[simp] theorem afterLine_dummyStackInc :
    afterLine dummyStackInc s = { afterTxn false (readTxn (stackAt s.s)) s with s := s.s + 1 } := by
  rw [← stackAddr_eq]; rfl

@[simp] theorem afterLine_pullInc (f : Byte → State → State) :
    afterLine (pullInc f) s =
      f (peek s (stackAt s.s)) { afterTxn false (readTxn (stackAt s.s)) s with s := s.s + 1 } := by
  rw [← stackAddr_eq]; rfl

@[simp] theorem afterLine_pullLast (f : Byte → State → State) :
    afterLine (pullLast f) s = f (peek s (stackAt s.s)) (afterTxn false (readTxn (stackAt s.s)) s) := by
  rw [← stackAddr_eq]; rfl

@[simp] theorem afterLine_pushByte (v : State → Byte) (f : State → State) :
    afterLine (pushByte v f) s = f { afterTxn false (writeTxn (stackAt s.s) (v s)) s with s := s.s - 1 } := by
  rw [← stackAddr_eq]; rfl

@[simp] theorem afterLine_vectorLo (vec : State → Word) :
    afterLine (vectorLo vec) s = setPcl (peek s (vec s)) (afterTxn false (readTxn (vec s)) s) := rfl

@[simp] theorem afterLine_vectorHi (vec : State → Word) :
    afterLine (vectorHi vec) s = setPch (peek s (vec s + 1)) (afterTxn true (readTxn (vec s + 1)) s) := rfl

end

/-! ### S as the pushes and pulls move it -/

theorem add_one_add_one (b : Byte) : b + 1 + 1 = b + 2 := BitVec.add_assoc b 1 1

theorem add_two_add_one (b : Byte) : b + 2 + 1 = b + 3 := BitVec.add_assoc b 2 1

theorem sub_one_sub_one (b : Byte) : b - 1 - 1 = b - 2 := by bv_omega

theorem sub_two_sub_one (b : Byte) : b - 2 - 1 = b - 3 := by bv_omega

/-! ### NOPs and flag instructions -/

theorem actsAs_discard (v : Byte) : ActsAs (discard v) fun r => r where
  kept := plainOp_discard v
  registers _ := rfl

theorem actsAs_id : ActsAs id fun r => r where
  kept := Kept.refl
  registers _ := rfl

/-- Settles O22: the opcode map gives each NOP the lines of its mode, and no operation. -/
theorem nopsReadAndChangeNothing : Obligations.NopsReadAndChangeNothing := by
  unfold Obligations.NopsReadAndChangeNothing
  refine ⟨?operand, ?implied⟩
  case operand =>
    intro e he
    fin_cases he <;> exact ⟨rfl, readsOperand_of_readLines actsAs_discard (by decide) fun _ => rfl⟩
  case implied =>
    intro e he
    fin_cases he <;> exact ⟨rfl, actsOnRegisters_of_implied actsAs_id fun _ => rfl⟩

theorem actsAs_clcOp : ActsAs clcOp fun r => { r with p := { r.p with c := false } } where
  kept := kept_clcOp
  registers _ := rfl

theorem actsAs_secOp : ActsAs secOp fun r => { r with p := { r.p with c := true } } where
  kept := kept_secOp
  registers _ := rfl

theorem actsAs_cliOp : ActsAs cliOp fun r => { r with p := { r.p with i := false } } where
  kept := kept_cliOp
  registers _ := rfl

theorem actsAs_seiOp : ActsAs seiOp fun r => { r with p := { r.p with i := true } } where
  kept := kept_seiOp
  registers _ := rfl

theorem actsAs_clvOp : ActsAs clvOp fun r => { r with p := { r.p with v := false } } where
  kept := kept_clvOp
  registers _ := rfl

theorem actsAs_cldOp : ActsAs cldOp fun r => { r with p := { r.p with d := false } } where
  kept := kept_cldOp
  registers _ := rfl

theorem actsAs_sedOp : ActsAs sedOp fun r => { r with p := { r.p with d := true } } where
  kept := kept_sedOp
  registers _ := rfl

/-- Settles O31: each flag instruction is one line, whose poll comes before its operation. -/
theorem flagInstructionsWriteOneFlag : Obligations.FlagInstructionsWriteOneFlag := by
  unfold Obligations.FlagInstructionsWriteOneFlag
  simp only [List.forall_mem_singleton]
  exact ⟨⟨rfl, actsOnRegisters_of_implied actsAs_clcOp fun _ => rfl⟩,
    ⟨rfl, actsOnRegisters_of_implied actsAs_secOp fun _ => rfl⟩,
    ⟨rfl, actsOnRegisters_of_implied actsAs_cliOp fun _ => rfl⟩,
    ⟨rfl, actsOnRegisters_of_implied actsAs_seiOp fun _ => rfl⟩,
    ⟨rfl, actsOnRegisters_of_implied actsAs_clvOp fun _ => rfl⟩,
    ⟨rfl, actsOnRegisters_of_implied actsAs_cldOp fun _ => rfl⟩,
    ⟨rfl, actsOnRegisters_of_implied actsAs_sedOp fun _ => rfl⟩⟩

/-! ### Pushes and pulls -/

/-- PHA and PHP (R246, R247): the byte `v` of the registers goes to the stack. -/
theorem ends_push {i : Instr} {v : State → Byte} {g : RegFile → Byte} (hv : ∀ u, v u = g (regs u))
    (he : ∀ s, exec i s = runInstr [dummyPc, pushByte v] s) {s : State} (hs : Ready s) :
    Ends i s ⟨[rd s s.pc, wr (stackAt s.s) (g (regs s))], { regs s with s := s.s - 1 }, s.pc, s.p.i, s.opr,
      some s.ea⟩ := by
  have hplain : AllPlain [dummyPc, pushByte v] :=
    allPlain_cons plain_dummyPc (allPlain_cons (plain_pushByte Kept.refl) allPlain_nil)
  have hbyte : v (afterTxn false (readTxn s.pc) s) = g (regs s) := hv _
  exact ends_of_goesOn hs hplain (show 2 ≤ 7 by decide) rfl (he s) (by simp) (by simp [accesses, hbyte]) rfl
    ⟨rfl, rfl, rfl, fun _ => Option.some.inj⟩

/-- Settles O29: PHA pushes A, PHP the user-push view of the flags. -/
theorem pushesWriteOneStackByte : Obligations.PushesWriteOneStackByte := by
  unfold Obligations.PushesWriteOneStackByte
  simp only [List.forall_mem_singleton]
  exact ⟨⟨rfl, fun s => ends_push (v := State.a) (g := RegFile.a) (fun _ => rfl) fun _ => rfl⟩,
    ⟨rfl, fun s => ends_push (v := fun s => s.p.push) (g := fun r => r.p.live ||| 0x10) (fun _ => rfl) fun _ => rfl⟩⟩

/-- PLA and PLP (R248, R249): the byte pulled goes where `f` says, after the last poll. -/
theorem ends_pull {i : Instr} {op : Byte → State → State} {f : Byte → RegFile → RegFile} (h : ∀ d, ActsAs (op d) (f d))
    (he : ∀ s, exec i s = runInstr [dummyPc, dummyStackInc, pullLast op] s) {s : State} (hs : Ready s) :
    Ends i s ⟨[rd s s.pc, rd s (stackAt s.s), rd s (stackAt (s.s + 1))],
      f (peek s (stackAt (s.s + 1))) { regs s with s := s.s + 1 }, s.pc, s.p.i, s.opr, some s.ea⟩ := by
  have hplain : AllPlain [dummyPc, dummyStackInc, pullLast op] :=
    allPlain_cons plain_dummyPc <| allPlain_cons plain_dummyStackInc <|
      allPlain_cons (plain_pullLast fun d => (h d).kept) allPlain_nil
  refine ends_of_goesOn hs hplain (show 3 ≤ 7 by decide) rfl (he s) (by simp) (by simp [accesses, rd, peek]) rfl ?_
  have hafter : afterLines [dummyPc, dummyStackInc, pullLast op] s =
      op (peek s (stackAt (s.s + 1))) (afterTxn false (readTxn (stackAt (s.s + 1)))
        (afterLine dummyStackInc (afterLine dummyPc s))) := by
    simp [afterLines, peek]
  rw [hafter]
  exact ⟨(h _).registers _, (h _).pc _, (h _).opr _, fun _ ha => ((h _).ea _).trans (Option.some.inj ha)⟩

/-- Settles O30: PLA pulls as LDA loads, PLP pulls all six flags. -/
theorem pullsReadOneStackByte : Obligations.PullsReadOneStackByte := by
  unfold Obligations.PullsReadOneStackByte
  simp only [List.forall_mem_singleton]
  have hflags : ∀ d, ActsAs (fun s => { s with p := Flags.load d }) fun r => { r with p := Flags.load d } :=
    fun d => { kept := fun _ => by constructor <;> rfl, registers := fun _ => rfl }
  exact ⟨⟨rfl, fun s => ends_pull actsAs_loadA fun _ => rfl⟩, ⟨rfl, fun s => ends_pull hflags fun _ => rfl⟩⟩

/-! ### Jumps -/

/-- The operand word, as EA takes it half by half (R126). -/
theorem base_eq_writeHi_writeLo (s : State) : base s = writeHi (writeLo s.ea (b2 s)) (b3 s) :=
  (writeHi_writeLo _ _ _).symm

/-- Settles O24: the pointer's increment is an add in the low half of EA. -/
theorem jumpsAndThePageWrapBug : Obligations.JumpsAndThePageWrapBug := by
  unfold Obligations.JumpsAndThePageWrapBug
  simp only [List.forall_mem_singleton]
  refine ⟨⟨rfl, fun s hs => ?absolute⟩, ⟨rfl, fun s hs => ?indirect⟩⟩
  case absolute =>
    rw [base_eq_writeHi_writeLo]
    exact ends_of_goesOn hs allPlain_jmpLines (by decide) rfl rfl (by simp [jmpLines, fetchEal]) rfl rfl
      ⟨rfl, rfl, rfl, fun _ => Option.some.inj⟩
  case indirect =>
    have hnext : b3 s ++ (b2 s + 1) = writeLo (base s) (lo8 (base s) + 1) := by
      rw [base, ← word_eq_append, ← word_eq_append, writeLo, hi8_word, lo8_word]
    simp only [hnext, base_eq_writeHi_writeLo, ← word_eq_append]
    refine ends_of_goesOn hs allPlain_jmpIndirectLines (by decide) rfl rfl
      (by simp [jmpIndirectLines, fetchEal, fetchEah]) ?log ?poll ?leaves
    case log => simp [accesses, jmpIndirectLines, fetchEal, fetchEah, rd, b2, b3, peek]
    case poll => rfl
    case leaves => constructor <;> simp [afterLines, jmpIndirectLines, fetchEal, fetchEah, b2, b3, peek, regs]

/-! ### Subroutines and returns -/

theorem goesOn_jsrLines : ∀ m ∈ jsrLines, GoesOn m := by simp [jsrLines]

/-- R242: the late fetch of the high operand byte finds memory as the pushes left it. -/
theorem peek_afterLines_jsrLines {s : State} (hs : Ready s) (a : Word) :
    peek (afterLines (jsrLines.take 4) s) a =
      written [wr (stackAt s.s) (hi8 (s.pc + 1)), wr (stackAt (s.s - 1)) (lo8 (s.pc + 1))] a (peek s a) := by
  have hreaches := reaches_take (n := 4) (lines := jsrLines) s (List.cons_ne_nil _ _)
    fun m hm => goesOn_jsrLines m (List.mem_of_mem_take hm)
  rw [Reaches.peek_eq hs allPlain_jsrLines (by decide) rfl hreaches]
  simp [accesses, jsrLines, written, rd, wr]

/-- Settles O25: the word that PC takes is that late byte above the first one. -/
theorem jsrPushesItsLastByteAddress : Obligations.JsrPushesItsLastByteAddress := by
  unfold Obligations.JsrPushesItsLastByteAddress
  refine List.forall_mem_singleton.mpr ⟨rfl, fun s hs => ?_⟩
  simp only [← hi8_eq_extract, ← lo8_eq_extract, ← peek_afterLines_jsrLines hs, ← sub_one_sub_one, ← word_eq_append]
  refine ends_of_goesOn hs allPlain_jsrLines (by decide) rfl rfl goesOn_jsrLines ?log rfl ?leaves
  case log => simp [accesses, afterLines, jsrLines, rd, peek]
  case leaves => constructor <;> simp [afterLines, jsrLines, regs, b2, peek]

/-- Settles O26: PC is written by halves with the word pulled, and moved on by the last dummy read. -/
theorem rtsReturnsPastThePulledAddress : Obligations.RtsReturnsPastThePulledAddress := by
  unfold Obligations.RtsReturnsPastThePulledAddress
  refine List.forall_mem_singleton.mpr ⟨rfl, fun s hs => ?_⟩
  simp only [← writeHi_writeLo s.pc, ← add_one_add_one]
  refine ends_of_goesOn hs allPlain_rtsLines (by decide) rfl rfl (by simp [rtsLines]) ?log rfl ?leaves
  case log => simp [accesses, rtsLines, setPcl, setPch, rd, peek]
  case leaves => constructor <;> simp [afterLines, rtsLines, setPcl, setPch, regs, peek]

/-- Settles O27: the flags are loaded before the transaction that polls last. -/
theorem rtiRestoresFlagsThenPc : Obligations.RtiRestoresFlagsThenPc := by
  unfold Obligations.RtiRestoresFlagsThenPc
  refine List.forall_mem_singleton.mpr ⟨rfl, fun s hs => ?_⟩
  simp only [← writeHi_writeLo s.pc, ← add_two_add_one, ← add_one_add_one]
  refine ends_of_goesOn hs allPlain_returnLines (by decide) rfl rfl (by simp [returnLines]) ?log ?poll ?leaves
  case log => simp [accesses, returnLines, setPcl, rd, peek]
  case poll => simp [afterLines, returnLines, setPcl, Flags.load, peek]
  case leaves => constructor <;> simp [afterLines, returnLines, setPcl, setPch, Flags.load, regs, peek]

/-! ### BRK -/

/-- A stack address lies in page 1, wherever S wraps to (R67). -/
theorem stackAt_ne {a : Word} (ha : hi8 a ≠ 1) (b : Byte) : stackAt b ≠ a := by
  rintro rfl
  rw [stackAt_eq_word, hi8_word] at ha
  exact ha rfl

theorem goesOn_brkLines_polling : ∀ m ∈ brkLines.take 5, GoesOn m := by simp [brkLines]

theorem reaches_brkLines (s : State) :
    Reaches brkLines s (accesses (brkLines.take 5) s) true [vectorHi fun _ => 0xFFFE]
      (afterLines (brkLines.take 5) s) :=
  reaches_take (n := 5) (lines := brkLines) s (List.cons_ne_nil _ _) goesOn_brkLines_polling

/-- R245: the pushes do not reach the vector. -/
theorem peek_afterLines_brkLines {s : State} (hs : Ready s) {a : Word} (ha : hi8 a ≠ 1) :
    peek (afterLines (brkLines.take 4) s) a = peek s a := by
  have hreaches := reaches_take (n := 4) (lines := brkLines) s (List.cons_ne_nil _ _)
    fun m hm => goesOn_brkLines_polling m (List.take_subset_take_left _ (by decide) hm)
  rw [Reaches.peek_eq hs allPlain_brkLines (by decide) rfl hreaches]
  simp [accesses, brkLines, written, rd, wr, stackAt_ne ha]

/-- Settles O28: the read of the vector's high byte is suspended, so the last poll is that of its low byte. -/
theorem brkPushesAndJumpsThroughItsVector : Obligations.BrkPushesAndJumpsThroughItsVector := by
  unfold Obligations.BrkPushesAndJumpsThroughItsVector
  refine List.forall_mem_singleton.mpr ⟨rfl, fun s hs => ?_⟩
  have hlo := peek_afterLines_brkLines hs (a := 0xFFFE) (by decide)
  have hhi := peek_afterLines_brkLines hs (a := 0xFFFF) (by decide)
  simp only [← hi8_eq_extract, ← lo8_eq_extract, rd, ← hlo, ← hhi, ← sub_two_sub_one, ← sub_one_sub_one,
    ← writeHi_writeLo (s.pc + 1)]
  refine ends_of_suspended hs allPlain_brkLines (by decide) rfl rfl (reaches_brkLines s) rfl (.inl rfl) ?log ?leaves
  case log => simp [accesses, afterLines, brkLines, Flags.push, setI, setPcl, rd, peek]
  case leaves => constructor <;> simp [afterLines, brkLines, setI, setPcl, setPch, regs, peek]

end Sys2Proof.Proofs
end

section
/-! SUPPORT. The conditional branches (R230 to R238), outcome by outcome, and the last transactions that do not poll
(R316). -/

namespace Sys2Proof.Proofs

open Sys2Proof.Machine Sys2Proof.Safety Sys2Proof.Laws

/-! ### The three lines of a branch -/

/-- T2 of a branch: the displacement. -/
def branchOffset (cond : Flags → Bool) : Micro where
  txn := fun s => readTxn s.pc
  after := fun d s =>
    let pc := s.pc + 1
    let target := pc + d.signExtend 16
    { s with
      opr := d
      pc := pc
      latch := { s.latch with target := target, c := hi8 target != hi8 pc } }
  ends := fun s => !cond s.p

/-- T3 of a branch that is taken: PCL, and the end within the page. -/
def branchLow : Micro where
  txn := fun s => readTxn s.pc
  sus := fun s => !s.latch.c
  after := fun _ s => { s with pc := writeLo s.pc (lo8 s.latch.target) }
  ends := fun s => !s.latch.c

/-- T4 of a branch that is taken to another page: PCH. -/
def branchHigh : Micro where
  txn := fun s => readTxn s.pc
  sus := fun _ => true
  after := fun _ s => { s with pc := writeHi s.pc (hi8 s.latch.target) }

theorem branch_eq (cond : Flags → Bool) : branch cond = [branchOffset cond, branchLow, branchHigh] := rfl

/-! ### Completion -/

theorem hi8_branchTarget_bne (s : State) : (hi8 (branchTarget s) != hi8 (s.pc + 1)) = branchCrosses s := by
  rw [hi8_eq_extract, hi8_eq_extract, branchCrosses]

/-- A low half of the target under the page of the next address is the target, if the page is the target's. -/
theorem writeLo_of_hi8_eq {w target : Word} (h : hi8 target = hi8 w) : writeLo w (lo8 target) = target := by
  rw [writeLo, ← h, word_eq_append, hi8_append_lo8]

/-- After T2: the target latched, PC at the next address. -/
def afterOffset (cond : Flags → Bool) (s : State) : State := afterLine (branchOffset cond) s

theorem afterOffset_latch_c (cond : Flags → Bool) (s : State) : (afterOffset cond s).latch.c = branchCrosses s :=
  hi8_branchTarget_bne s

theorem branchOffset_ends (cond : Flags → Bool) (s : State) :
    (branchOffset cond).ends (afterOffset cond s) = !cond s.p := rfl

section
variable {i : Instr} {cond : Flags → Bool} (he : ∀ s, exec i s = runInstr (branch cond) s) {s : State} (hs : Ready s)
include he hs

theorem ends_branch_not_taken (hcond : cond s.p = false) :
    Ends i s ⟨[rd s s.pc], regs s, s.pc + 1, s.p.i, b2 s, some s.ea⟩ := by
  have hend : (branchOffset cond).ends (afterOffset cond s) = true := by
    rw [branchOffset_ends, hcond, Bool.not_false]
  exact ends_of_runsTo hs (he s) (allPlain_branch cond) (show 3 ≤ 7 by decide) rfl
    ⟨_, .last (.inr hend), ⟨rfl, rfl, rfl, fun _ => Option.some.inj⟩⟩

theorem ends_branch_in_page (hcond : cond s.p = true) (hcross : branchCrosses s = false) :
    Ends i s ⟨[rd s s.pc, rd s (s.pc + 1)], regs s, branchTarget s, s.p.i, b2 s, some s.ea⟩ := by
  have hgo : (branchOffset cond).ends (afterOffset cond s) = false := by
    rw [branchOffset_ends, hcond, Bool.not_true]
  have hlast : (!(afterOffset cond s).latch.c) = true := by rw [afterOffset_latch_c, hcross, Bool.not_false]
  have hpage : hi8 (branchTarget s) = hi8 (s.pc + 1) := by
    rwa [← hi8_branchTarget_bne, bne_eq_false_iff_eq] at hcross
  exact ends_of_suspended hs (allPlain_branch cond) (show 3 ≤ 7 by decide) rfl (he s)
    (.one (m := branchOffset cond) hgo) hlast (.inr hlast) rfl
    ⟨rfl, writeLo_of_hi8_eq hpage, rfl, fun _ => Option.some.inj⟩

theorem ends_branch_to_page (hcond : cond s.p = true) (hcross : branchCrosses s = true) :
    Ends i s ⟨[rd s s.pc, rd s (s.pc + 1),
      rd s ((s.pc + 1).extractLsb' 8 8 ++ (branchTarget s).extractLsb' 0 8)],
      regs s, branchTarget s, s.p.i, b2 s, some s.ea⟩ := by
  have hgo : (branchOffset cond).ends (afterOffset cond s) = false := by
    rw [branchOffset_ends, hcond, Bool.not_true]
  have hgo' : (!(afterOffset cond s).latch.c) = false := by rw [afterOffset_latch_c, hcross, Bool.not_true]
  have hreaches : Reaches (branch cond) s [rd s s.pc, access branchLow (afterOffset cond s)] s.p.i [branchHigh]
      (afterLine branchLow (afterOffset cond s)) :=
    branch_eq cond ▸ .next (.one hgo' hgo') hgo
  rw [← hi8_eq_extract, ← lo8_eq_extract, ← word_eq_append]
  refine ends_of_suspended hs (allPlain_branch cond) (show 3 ≤ 7 by decide) rfl (he s) hreaches rfl (.inl rfl) ?log
    ?leaves
  case log => simp [afterOffset, branchOffset, branchLow, branchHigh, writeLo, branchTarget, b2, rd, peek]
  case leaves =>
    constructor <;>
      simp [afterOffset, branchOffset, branchLow, branchHigh, regs, b2, peek, writeHi_writeLo, hi8_append_lo8,
        branchTarget]

/-- R230: the three outcomes of a branch. -/
theorem ends_branch :
    Ends i s
      (if cond s.p then
        if branchCrosses s then
          ⟨[rd s s.pc, rd s (s.pc + 1),
            rd s ((s.pc + 1).extractLsb' 8 8 ++ (branchTarget s).extractLsb' 0 8)],
            regs s, branchTarget s, s.p.i, b2 s, some s.ea⟩
        else ⟨[rd s s.pc, rd s (s.pc + 1)], regs s, branchTarget s, s.p.i, b2 s, some s.ea⟩
      else ⟨[rd s s.pc], regs s, s.pc + 1, s.p.i, b2 s, some s.ea⟩) := by
  split
  next hcond =>
    split
    next hcross => exact ends_branch_to_page he hs hcond hcross
    next hcross => exact ends_branch_in_page he hs hcond (Bool.eq_false_iff.mpr hcross)
  next hcond => exact ends_branch_not_taken he hs (Bool.eq_false_iff.mpr hcond)

end

/-- Settles O23: each branch is the lines of R230 with its condition. -/
theorem branchesMoveOnlyPc : Obligations.BranchesMoveOnlyPc := by
  unfold Obligations.BranchesMoveOnlyPc
  intro e he
  fin_cases he
  all_goals refine ⟨rfl, fun p => ?_, fun s => ends_branch fun _ => rfl⟩
  exacts [beq_false _, beq_true _, beq_false _, beq_true _, beq_false _, beq_true _, beq_false _, beq_true _]

/-! ### Last transactions that do not poll -/

/-- A sequence that goes on from the transaction before a suspended last one ends with the sampler that it had. -/
theorem unpolled_of_retained {q : SeqKind} {first k : Nat} {d : Byte} {lines rest : List Micro} {m l : Micro}
    {s t : State} (hp : s.position = .inTxn q k d) (hplain : AllPlain lines) (hc : Covers 1 s)
    (h : runSeq q first lines s = .next t) (hk : first ≤ k) (hl : lines.drop (k - first) = m :: l :: rest)
    (hgo : m.ends (m.after d (stepE s)) = false) (hsus : l.sus (m.after d (stepE s)) = true)
    (hend : rest = [] ∨ l.ends (afterLine l (m.after d (stepE s))) = true) :
    t.position = .boundary ∧ Unpolled s t := by
  have hmem : ∀ x ∈ m :: l :: rest, Plain x := fun x hx => hplain x (List.mem_of_mem_drop (hl ▸ hx))
  have hk' : Kept (stepE s) (m.after d (stepE s)) := (hmem m List.mem_cons_self).after _ _
  have hlast := hmem l (List.mem_cons_of_mem _ List.mem_cons_self)
  have hc' : Covers 1 (m.after d (stepE s)) := by
    refine ⟨hk'.devices.trans hc.plain, ?_⟩
    rw [hk'.sched]
    exact hc.budget
  rw [runSeq_retained hp hk hl, hgo, if_neg Bool.false_ne_true,
    runFrom_cons_plain q (k + 1) rest hlast hc'.plain (hc'.due_lt _)] at h
  have ht : t = finish (afterLine l (m.after d (stepE s))) := by
    obtain rfl | hend := hend
    · cases (ite_self _).symm.trans h
      rfl
    · cases (if_pos hend).symm.trans h
      rfl
  rw [ht]
  exact ⟨rfl, (unpolled_of_kept hk').trans (unpolled_afterLine hlast hsus)⟩

/-- R316: in its page or out of it, the last transaction of a taken branch does not poll. -/
theorem unpolled_of_branch {i : Instr} {cond : Flags → Bool} (he : ∀ s, exec i s = runInstr (branch cond) s)
    {s t : State} {d : Byte} (hc : Covers 1 s) (hcond : cond s.p = true)
    (hp : s.position = .inTxn .instr 1 d ∧ hi8 (s.pc + 1 + d.signExtend 16) = hi8 (s.pc + 1) ∨
      s.position = .inTxn .instr 2 d ∧ s.latch.c = true)
    (h : exec i s = .next t) : t.position = .boundary ∧ Unpolled s t := by
  rw [he, runInstr] at h
  obtain ⟨hp, hpage⟩ | ⟨hp, hcross⟩ := hp
  · have hc' : (!(hi8 (s.pc + 1 + d.signExtend 16) != hi8 (s.pc + 1))) = true := by
      rw [hpage, bne_self_eq_false, Bool.not_false]
    have hgo : (!cond s.p) = false := by rw [hcond, Bool.not_true]
    exact unpolled_of_retained (m := branchOffset cond) (l := branchLow) hp (allPlain_branch cond) hc h (Nat.le_refl 1)
      rfl hgo hc' (.inr hc')
  · have hgo : (!s.latch.c) = false := by rw [hcross, Bool.not_true]
    exact unpolled_of_retained (m := branchLow) (l := branchHigh) hp (allPlain_branch cond) hc h (by decide)
      rfl hgo rfl (.inl rfl)

/-- Settles O42: the last line of each of these sequences is suspended. -/
theorem suspendedTransactionsDoNotPoll : Obligations.SuspendedTransactionsDoNotPoll := by
  unfold Obligations.SuspendedTransactionsDoNotPoll
  intro s t d hplain hbudget
  have hc : Covers 1 s := ⟨hplain, hbudget⟩
  refine ⟨?branches, ?vectors⟩
  case branches =>
    intro e he
    fin_cases he <;> exact unpolled_of_branch (fun _ => rfl) hc
  case vectors =>
    rintro (⟨hp, h⟩ | ⟨hp, h⟩ | ⟨hp, h⟩)
    · exact unpolled_of_retained hp allPlain_brkLines hc h (by decide) rfl rfl rfl (.inl rfl)
    · exact unpolled_of_retained hp allPlain_entryLines hc h (by decide) rfl rfl rfl (.inl rfl)
    · exact unpolled_of_retained hp allPlain_resetLines hc h (by decide) rfl rfl rfl (.inl rfl)

end Sys2Proof.Proofs
end

section
/-! SUPPORT. The undocumented combined operations (R270 to R285, R291): read-modify-write operations with an accumulator
half, and operations on an immediate operand and registers. -/

namespace Sys2Proof.Proofs

open Sys2Proof.Machine Sys2Proof.Safety Sys2Proof.Laws

/-! ### Combined read-modify-write operations -/

/-- R270: a memory half that gives the byte and the flags of `g`, of which I is not one, and then an accumulator half that
acts with that byte as `f` on the registers, the new flags among them. -/
theorem modifiesAs_combined {out g : Flags → Byte → Byte × Flags} {op : ReadOp} {f : Byte → RegFile → RegFile}
    (hg : ∀ p v, out p v = g p v) (hi : ∀ p v, (g p v).2.i = p.i) (hop : ∀ v, ActsAs (op v) (f v)) :
    ModifiesAs { modify := modifyBy out, after := op }
      fun v r => ((g r.p v).1, f (g r.p v).1 { r with p := (g r.p v).2 }) := by
  obtain rfl : out = g := funext₂ hg
  exact
    { plain := ⟨fun _ _ => by constructor <;> rfl, fun v => (hop v).kept⟩
      byte := fun _ _ => rfl
      registers := fun v u w hw => by rw [(hop _).registers, hw]; rfl
      pollI := fun _ _ => hi _ _
      after_pc := fun v => (hop v).pc
      after_ea := fun v => (hop v).ea
      after_opr := fun v => (hop v).opr }

/-- R271: the OR sets N and Z again, the carry is the shift's. -/
theorem modifiesAs_sloOp : ModifiesAs sloOp fun v r =>
    (v <<< 1, { r with a := r.a ||| v <<< 1, p := { nz r.p (r.a ||| v <<< 1) with c := v.msb } }) :=
  modifiesAs_combined aslOut_eq (fun _ _ => rfl) actsAs_oraOp

/-- R272: the AND sets N and Z again, the carry is the rotate's. -/
theorem modifiesAs_rlaOp : ModifiesAs rlaOp fun v r =>
    let m := v <<< 1 ||| carryByte r.p.c
    (m, { r with a := r.a &&& m, p := { nz r.p (r.a &&& m) with c := v.msb } }) :=
  modifiesAs_combined rolOut_eq (fun _ _ => rfl) actsAs_andOp

/-- R273: the EOR sets N and Z again, the carry is the shift's. -/
theorem modifiesAs_sreOp : ModifiesAs sreOp fun v r =>
    (v >>> 1, { r with a := r.a ^^^ v >>> 1, p := { nz r.p (r.a ^^^ v >>> 1) with c := v.getLsbD 0 } }) :=
  modifiesAs_combined lsrOut_eq (fun _ _ => rfl) actsAs_eorOp

/-- R274: the carry that the addition takes is the one that the rotate produced. -/
theorem modifiesAs_rraOp : ModifiesAs rraOp fun v r =>
    let m := v >>> 1 ||| carryByte r.p.c <<< 7
    (m, added m { r with p := { r.p with c := v.getLsbD 0 } }) :=
  modifiesAs_combined rorOut_eq (fun _ _ => rfl) actsAs_adcOp

/-- R277: the decrement sets no flag. -/
theorem modifiesAs_dcpOp : ModifiesAs dcpOp fun v r => (v - 1, { r with p := compared r.p r.a (v - 1) }) :=
  modifiesAs_combined (g := fun p v => (v - 1, p)) (fun _ _ => rfl) (fun _ _ => rfl) actsAs_cmpOp

/-- R278: the increment sets no flag, so the borrow is the carry from before. -/
theorem modifiesAs_iscOp : ModifiesAs iscOp fun v r => (v + 1, subtracted (v + 1) r) :=
  modifiesAs_combined (g := fun p v => (v + 1, p)) (fun _ _ => rfl) (fun _ _ => rfl) actsAs_sbcOp

/-- Settles O16: the opcode map gives each form the lines of its mode. -/
theorem shiftCombinationsUpdateAccumulator : Obligations.ShiftCombinationsUpdateAccumulator := by
  unfold Obligations.ShiftCombinationsUpdateAccumulator
  refine ⟨?slo, ?rla, ?sre, ?rra⟩
  case slo =>
    intro e he
    fin_cases he <;> exact ⟨rfl, modifiesOperand_of_modifyLines modifiesAs_sloOp rfl fun _ => rfl⟩
  case rla =>
    intro e he
    fin_cases he <;> exact ⟨rfl, modifiesOperand_of_modifyLines modifiesAs_rlaOp rfl fun _ => rfl⟩
  case sre =>
    intro e he
    fin_cases he <;> exact ⟨rfl, modifiesOperand_of_modifyLines modifiesAs_sreOp rfl fun _ => rfl⟩
  case rra =>
    intro e he
    fin_cases he <;> exact ⟨rfl, modifiesOperand_of_modifyLines modifiesAs_rraOp rfl fun _ => rfl⟩

/-- Settles O17: the opcode map gives each form the lines of its mode. -/
theorem decrementCompareAndIncrementSubtract : Obligations.DecrementCompareAndIncrementSubtract := by
  unfold Obligations.DecrementCompareAndIncrementSubtract
  refine ⟨?dcp, ?isc⟩
  case dcp =>
    intro e he
    fin_cases he <;> exact ⟨rfl, modifiesOperand_of_modifyLines modifiesAs_dcpOp rfl fun _ => rfl⟩
  case isc =>
    intro e he
    fin_cases he <;> exact ⟨rfl, modifiesOperand_of_modifyLines modifiesAs_iscOp rfl fun _ => rfl⟩

/-! ### Operations on an immediate operand, and LAS -/

theorem actsAs_ancOp (v : Byte) : ActsAs (ancOp v) fun r =>
    { r with a := r.a &&& v, p := { nz r.p (r.a &&& v) with c := (r.a &&& v).msb } } where
  kept := plainOp_ancOp v
  registers u := by rw [← setNZ_eq, ← bit7_eq_msb]; rfl

theorem actsAs_alrOp (v : Byte) : ActsAs (alrOp v) fun r =>
    { r with a := (r.a &&& v) >>> 1, p := { nz r.p ((r.a &&& v) >>> 1) with c := (r.a &&& v).getLsbD 0 } } where
  kept := plainOp_alrOp v
  registers u := by rw [← setNZ_eq]; rfl

theorem actsAs_sbxOp (v : Byte) : ActsAs (sbxOp v) fun r =>
    { r with x := (r.a &&& r.x) - v, p := compared r.p (r.a &&& r.x) v } where
  kept := plainOp_sbxOp v
  registers u := by rw [← cmp_eq]; rfl

theorem actsAs_lasOp (v : Byte) : ActsAs (lasOp v) fun r =>
    { r with a := v &&& r.s, x := v &&& r.s, s := v &&& r.s, p := nz r.p (v &&& r.s) } where
  kept := plainOp_lasOp v
  registers u := by rw [← setNZ_eq]; rfl

theorem actsAs_aneOp (v : Byte) : ActsAs (aneOp v) fun r =>
    let t := (r.a ||| Config.aneMagic) &&& r.x &&& v
    { r with a := t, p := nz r.p t } where
  kept := plainOp_aneOp v
  registers u := by simp only [← setNZ_eq]; rfl

theorem actsAs_lxaOp (v : Byte) : ActsAs (lxaOp v) fun r =>
    let t := (r.a ||| Config.lxaMagic) &&& v
    { r with a := t, x := t, p := nz r.p t } where
  kept := plainOp_lxaOp v
  registers u := by simp only [← setNZ_eq]; rfl

/-- Settles O18: three immediate operations, and a read of absolute indexed mode. -/
theorem immediateCombinationsAndLas : Obligations.ImmediateCombinationsAndLas := by
  unfold Obligations.ImmediateCombinationsAndLas
  simp only [List.forall_mem_singleton]
  refine ⟨?anc, ⟨rfl, readsOperand_of_immediate actsAs_alrOp fun _ => rfl⟩,
    ⟨rfl, readsOperand_of_immediate actsAs_sbxOp fun _ => rfl⟩,
    ⟨rfl, readsOperand_of_ea actsAs_lasOp rfl fun _ => rfl⟩⟩
  intro e he
  fin_cases he <;> exact ⟨rfl, readsOperand_of_immediate actsAs_ancOp fun _ => rfl⟩

/-- Settles O20: nothing is known of the constants, and nothing is needed. -/
theorem unstableImmediatesTakeTheirConstant : Obligations.UnstableImmediatesTakeTheirConstant := by
  unfold Obligations.UnstableImmediatesTakeTheirConstant
  simp only [List.forall_mem_singleton]
  exact ⟨⟨rfl, readsOperand_of_immediate actsAs_aneOp fun _ => rfl⟩,
    ⟨rfl, readsOperand_of_immediate actsAs_lxaOp fun _ => rfl⟩⟩

/-! ### ARR (R281) -/

/-- The rotated byte as a number: the carry enters at bit 7, where the shift has left a 0. -/
theorem toNat_arrRotate (p : Flags) (t : Byte) :
    (arrRotate p t).toNat = t.toNat / 2 + if p.c then 128 else 0 := by
  have hhalf : t.toNat / 2 < 2 ^ 7 := by have := t.isLt; omega
  have hcarry : (bit p.c 7).toNat = 2 ^ 7 * p.c.toNat := by cases p.c <;> rfl
  rw [arrRotate, BitVec.toNat_or, BitVec.toNat_ushiftRight, Nat.shiftRight_one, hcarry, Nat.or_comm,
    ← Nat.two_pow_add_eq_or_of_lt hhalf, Nat.add_comm]
  cases p.c <;> rfl

theorem toNat_and_lowMask (b : Byte) : (b &&& 0x0F).toNat = b.toNat % 16 := by
  rw [BitVec.toNat_and]
  exact Nat.and_two_pow_sub_one_eq_mod _ 4

/-- The adjustment of the low digit leaves the high digit alone. -/
theorem toNat_adjustLow (r : Byte) :
    (r &&& 0xF0 ||| (r + 6) &&& 0x0F).toNat = r.toNat / 16 * 16 + (r.toNat + 6) % 16 := by
  have hlow : (r.toNat + 6) % 16 < 2 ^ 4 := Nat.mod_lt _ (by decide)
  have hsum : (r + 6).toNat % 16 = (r.toNat + 6) % 16 := by
    rw [BitVec.toNat_add]
    exact Nat.mod_mod_of_dvd _ (by decide)
  rw [BitVec.toNat_or, toNat_and_highMask, toNat_and_lowMask, hsum, Nat.mul_comm,
    ← Nat.two_pow_add_eq_or_of_lt hlow]

theorem adjustLow_eq (r : Byte) :
    r &&& 0xF0 ||| (r + 6) &&& 0x0F = BitVec.ofNat 8 (r.toNat / 16 * 16 + (r.toNat + 6) % 16) := by
  rw [← toNat_adjustLow, BitVec.ofNat_toNat, BitVec.setWidth_eq]

theorem beq_zero_eq_decide_toNat (v : Byte) : (v == 0) = decide (v.toNat = 0) := by
  rw [Bool.eq_iff_iff, beq_iff_eq, decide_eq_true_iff, ← BitVec.toNat_inj]
  rfl

/-- The registers after ARR, whose byte and flags are `o`. -/
def withArr (o : Byte × Flags) (r : RegFile) : RegFile := { r with a := o.1, p := o.2 }

theorem withArr_arrBin (m : Byte) (r : RegFile) (h : ¬(Config.decimalEnabled = true ∧ r.p.d = true)) :
    withArr (arrBin r.p (r.a &&& m)) r = arrRegs m r := by
  rw [arrRegs]
  simp only [if_neg h, ← toNat_arrRotate]
  rw [arrBin, setNZ_eq, BitVec.ofNat_toNat, BitVec.setWidth_eq]
  rfl

/-- R281: the rotated byte after the two decimal adjustments, the second of them modulo 256. -/
theorem arrDec_fst (p : Flags) (t : Byte) :
    (arrDec p t).1 =
      let rot := (arrRotate p t).toNat
      let low := if 5 < t.toNat % 16 + t.toNat % 2 then rot / 16 * 16 + (rot + 6) % 16 else rot
      BitVec.ofNat 8 (if decide (5 < t.toNat / 16 + t.toNat / 16 % 2) then low + 96 else low) := by
  have hparity : t.toNat % 16 % 2 = t.toNat % 2 := Nat.mod_mod_of_dvd _ (by decide)
  simp only [arrDec, hparity, adjustLow_eq]
  split <;> split <;> simp [BitVec.ofNat_add]

theorem withArr_arrDec (m : Byte) (r : RegFile) (h : Config.decimalEnabled = true ∧ r.p.d = true) :
    withArr (arrDec r.p (r.a &&& m)) r = arrRegs m r := by
  rw [arrRegs]
  simp only [if_pos h, ← toNat_arrRotate, withArr, arrDec_fst]
  simp only [arrDec, BitVec.getLsbD_xor, beq_zero_eq_decide_toNat]
  rfl

theorem actsAs_arrOp (v : Byte) : ActsAs (arrOp v) (arrRegs v) where
  kept := plainOp_arrOp v
  registers u := by
    show withArr (arrOut u.p (u.a &&& v)) (regs u) = arrRegs v (regs u)
    rw [arrOut]
    split
    next hd => exact withArr_arrDec v (regs u) ((decimal_iff u.p).mp hd)
    next hd => exact withArr_arrBin v (regs u) (mt (decimal_iff u.p).mpr hd)

/-- Settles O19: the rule on bytes is the rule on numbers. -/
theorem arrRotatesWithItsOwnFlags : Obligations.ArrRotatesWithItsOwnFlags := by
  unfold Obligations.ArrRotatesWithItsOwnFlags
  exact List.forall_mem_singleton.mpr ⟨rfl, readsOperand_of_immediate actsAs_arrOp fun _ => rfl⟩

end Sys2Proof.Proofs
end

section
/-! SUPPORT. The SH group (R286 to R290): after the read at the tentative address, a write whose byte and whose address
both come from the base high byte. -/

namespace Sys2Proof.Proofs

open Sys2Proof.Machine Sys2Proof.Safety Sys2Proof.Laws

/-! ### The base high byte -/

/-- The base high byte H of R286: the high byte of the address to which the index is added. -/
def baseHigh : Mode → State → Byte
  | .indirectIndexed, s => peek s (zp (b2 s + 1))
  | _, s => b3 s

/-- The indexed modes latch it. -/
theorem latch_h_of_indexed {m : Mode} (hm : indexed m = true) (s : State) :
    (afterLines (addressLines m) s).latch.h = baseHigh m s := by
  cases m with
  | absoluteX | absoluteY | indirectIndexed =>
    simp [addressLines, afterLines, absoluteIndexed, indirectIndexed, fetchEal, fetchPointer, pointerLo, baseHigh,
      b2, b3, peek, zeroPage_eq]
  | _ => cases hm

/-- A correction of the page leaves the low byte alone. -/
theorem lo8_fixPage_ea (s : State) : lo8 (fixPage s).ea = lo8 s.ea := by
  rw [fixPage_ea]
  split
  · exact lo8_word _ _
  · rfl

/-! ### Lines that form the tentative address, and an operation after them -/

/-- The lines form the tentative address of the mode as `addressLines` do, and then perform `op` (R128, R132, R290). -/
structure FormsThen (m : Mode) (op : State → State) (lines : List Micro) : Prop where
  plain : AllPlain lines
  goesOn : ∀ l ∈ lines, GoesOn l
  short : lines.length ≤ 4
  reads : ∀ s, lines.head?.map (fun l => (l.txn s).dir) = some .read
  log : ∀ s, accesses lines s = addressing m s
  after : ∀ s, afterLines lines s = op (afterLines (addressLines m) s)

theorem formsThen_addressLines {m : Mode} (hm : formsAddress m = true) : FormsThen m id (addressLines m) :=
  have h := formsEa_addressLines hm
  ⟨h.plain, h.goesOn, h.short, h.reads, h.log, fun _ => rfl⟩

theorem formsThen_tas : FormsThen .absoluteY tasOp (absoluteIndexed indexY tasOp) where
  plain := allPlain_absoluteIndexed indexY kept_tasOp
  goesOn := by simp [absoluteIndexed, fetchEal]
  short := by decide
  reads _ := rfl
  log _ := rfl
  after _ := rfl

/-- R290: S takes A AND X. -/
theorem actsAs_tasOp : ActsAs tasOp fun r => { r with s := r.a &&& r.x } where
  kept := kept_tasOp
  registers _ := rfl

/-! ### The read at the tentative address -/

theorem formsAddress_of_indexed {m : Mode} (hm : indexed m = true) : formsAddress m = true := by
  cases m with
  | absoluteX | absoluteY | indirectIndexed => rfl
  | _ => cases hm

/-- What the write finds, after the read at the tentative address: the registers by `f`, and of the index add the low byte,
the carry and the base high byte. -/
structure FindsTentative (m : Mode) (f : RegFile → RegFile) (s u : State) : Prop where
  registers : regs u = f (regs s)
  pc : u.pc = pastOperand m s
  opr : u.opr = s.opr
  low : lo8 u.ea = lo8 (tentative m s)
  carry : u.latch.c = crossed m s
  high : u.latch.h = baseHigh m s

section
variable {m : Mode} {op : State → State} {f : RegFile → RegFile} {lines : List Micro}
  (hm : indexed m = true) (hl : FormsThen m op lines) (hop : ActsAs op f) (s : State)
include hm hl hop

theorem accesses_dummyTentative :
    accesses (lines ++ [dummyTentative]) s = addressing m s ++ [rd s (tentative m s)] := by
  have hu := (formsEa_addressLines (formsAddress_of_indexed hm)).forms s
  have hea : (op (afterLines (addressLines m) s)).ea = tentative m s := (hop.ea _).trans hu.ea
  have hmem : (op (afterLines (addressLines m) s)).mem = s.mem := (hop.kept _).mem.trans hu.mem
  rw [accesses_append, hl.log, hl.after, ← hea, rd, peek, ← hmem]
  rfl

theorem findsTentative : FindsTentative m f s (afterLines (lines ++ [dummyTentative]) s) := by
  have hf := formsEa_addressLines (formsAddress_of_indexed hm)
  have hu := hf.forms s
  have hlatch : (afterLines [dummyTentative] (op (afterLines (addressLines m) s))).latch =
      (afterLines (addressLines m) s).latch := (fixPage_latch _).trans (hop.latch _)
  rw [afterLines_append, hl.after]
  exact
    { registers := (regs_fixPage _).trans ((hop.registers _).trans (congrArg f hu.registers))
      pc := (fixPage_pc _).trans ((hop.pc _).trans hu.pc)
      opr := (fixPage_opr _).trans ((hop.opr _).trans (hf.opr s))
      low := (lo8_fixPage_ea _).trans (congrArg lo8 ((hop.ea _).trans hu.ea))
      carry := (congrArg Latches.c hlatch).trans (hu.carry hm)
      high := (congrArg Latches.h hlatch).trans (latch_h_of_indexed hm s) }

end

/-! ### The write -/

/-- The line that writes. -/
def highWrite (reg : StoreValue) : Micro where
  txn := fun s => writeTxn (highAndAddr reg s) (highAnd reg s)

theorem writeHighAnd_eq (reg : StoreValue) : writeHighAnd reg = [highWrite reg] := rfl

/-- The byte stored: the source `v` ANDed with the base high byte plus one. -/
def storedHigh (m : Mode) (v : Byte) (s : State) : Byte := v &&& (baseHigh m s + 1)

/-- The address stored to: across a page the byte stored is its high byte. -/
def highDest (m : Mode) (v : Byte) (s : State) : Word :=
  (if crossed m s then storedHigh m v s else baseHigh m s) ++ (tentative m s).extractLsb' 0 8

theorem access_highWrite {m : Mode} {f : RegFile → RegFile} {reg : StoreValue} {g : RegFile → Byte} {s u : State}
    (hreg : ∀ u, reg u = g (regs u)) (hu : FindsTentative m f s u) :
    access (highWrite reg) u = wr (highDest m (g (f (regs s))) s) (storedHigh m (g (f (regs s))) s) := by
  have hbyte : highAnd reg u = storedHigh m (g (f (regs s))) s := by
    rw [highAnd, hreg, hu.registers, hu.high, storedHigh]
  have haddr : highAndAddr reg u = highDest m (g (f (regs s))) s := by
    rw [highAndAddr, hbyte, hu.carry, hu.high, hu.low, word_eq_append, lo8_eq_extract, highDest]
  rw [← hbyte, ← haddr]
  rfl

/-- An instruction of the SH group whose registers are `f` of those before, and whose source is `g` of them, completes. -/
theorem ends_highAnd {i : Instr} {m : Mode} {op : State → State} {f : RegFile → RegFile} {lines : List Micro}
    {reg : StoreValue} {g : RegFile → Byte} (hm : indexed m = true) (hl : FormsThen m op lines) (hop : ActsAs op f)
    (he : ∀ s, exec i s = runInstr (lines ++ dummyTentative :: writeHighAnd reg) s) {s : State} (hs : Ready s)
    (hi : ∀ r, (f r).p.i = r.p.i := by intros; rfl) (hreg : ∀ u, reg u = g (regs u) := by intros; rfl) :
    Ends i s ⟨addressing m s ++ [rd s (tentative m s),
      wr (highDest m (g (f (regs s))) s) (storedHigh m (g (f (regs s))) s)], f (regs s), pastOperand m s, s.p.i, s.opr,
      none⟩ := by
  have hu := findsTentative hm hl hop s
  have hlen := hl.short
  have hlines : lines ++ dummyTentative :: writeHighAnd reg = lines ++ [dummyTentative] ++ [highWrite reg] := by
    rw [writeHighAnd_eq, List.append_assoc, List.singleton_append]
  obtain ⟨l, hhead, hread⟩ := Option.map_eq_some_iff.mp (hl.reads s)
  have hplain : AllPlain (lines ++ [dummyTentative] ++ [highWrite reg]) :=
    allPlain_append (allPlain_append hl.plain (allPlain_cons plain_dummyTentative allPlain_nil))
      (allPlain_writeHighAnd reg)
  have hgo : ∀ l ∈ lines ++ [dummyTentative] ++ [highWrite reg], GoesOn l := by
    simp only [List.forall_mem_append, List.forall_mem_singleton]
    exact ⟨⟨hl.goesOn, fun _ => rfl, fun _ => rfl⟩, fun _ => rfl, fun _ => rfl⟩
  refine ends_of_goesOn hs hplain ?short ?reads (hlines ▸ he s) hgo ?log ?poll ?leaves
  case short =>
    simp only [List.length_append, List.length_singleton]
    omega
  case reads => simp [List.head?_append, hhead, hread]
  case log =>
    rw [accesses_append, accesses_dummyTentative hm hl hop, accesses, access_highWrite hreg hu, List.append_assoc]
    rfl
  case poll =>
    rw [List.dropLast_concat]
    exact (congrArg (fun r : RegFile => r.p.i) hu.registers).trans (hi _)
  case leaves =>
    rw [afterLines_append]
    exact ⟨hu.registers, hu.pc, hu.opr, nofun⟩

/-! ### The statement -/

/-- Settles O21: of the group only TAS has an operation of its own before the read at the tentative address. -/
theorem highByteStoresReplaceTheAddressOnCrossing : Obligations.HighByteStoresReplaceTheAddressOnCrossing := by
  unfold Obligations.HighByteStoresReplaceTheAddressOnCrossing
  simp only [List.forall_mem_singleton]
  refine ⟨⟨rfl, fun s hs => ?shaAby⟩, ⟨rfl, fun s hs => ?shaIzy⟩, ⟨rfl, fun s hs => ?shx⟩, ⟨rfl, fun s hs => ?shy⟩,
    ⟨rfl, fun s hs => ?tas⟩⟩
  case shaAby =>
    exact ends_highAnd (m := .absoluteY) (reg := storeAX) (g := fun r => r.a &&& r.x) rfl (formsThen_addressLines rfl)
      actsAs_id (fun _ => rfl) hs
  case shaIzy =>
    exact ends_highAnd (m := .indirectIndexed) (reg := storeAX) (g := fun r => r.a &&& r.x) rfl
      (formsThen_addressLines rfl) actsAs_id (fun _ => rfl) hs
  case shx =>
    exact ends_highAnd (m := .absoluteY) (reg := State.x) (g := RegFile.x) rfl (formsThen_addressLines rfl)
      actsAs_id (fun _ => rfl) hs
  case shy =>
    exact ends_highAnd (m := .absoluteX) (reg := State.y) (g := RegFile.y) rfl (formsThen_addressLines rfl)
      actsAs_id (fun _ => rfl) hs
  case tas =>
    exact ends_highAnd (m := .absoluteY) (reg := State.s) (g := RegFile.s) rfl formsThen_tas actsAs_tasOp
      (fun _ => rfl) hs

end Sys2Proof.Proofs
end

section
/-! SUPPORT. A jammed core (R293, R328): how it jams, and that only a reset brings it back. -/

namespace Sys2Proof.Proofs

open Sys2Proof.Machine Sys2Proof.Safety Sys2Proof.Laws

/-! ### The jam -/

theorem jam_of_boundary {s : State} (hp : s.position = .boundary) :
    jam s = .next
      { s with
        run := .jammed
        latch := Latches.clear
        sched := { s.sched with ctx := .suspended }
        active := none
        report := some ⟨0, .jammed, s.sched.budget⟩ } := by
  simp only [jam, stop, finish, hp]

/-- Settles O32: all twelve are the jam. -/
theorem jamStopsTheContext : Obligations.JamStopsTheContext := by
  unfold Obligations.JamStopsTheContext
  intro e he
  fin_cases he <;> exact ⟨rfl, fun _ => jam_of_boundary⟩

/-! ### The jam state -/

/-- The core of a state, but for what Abort discards of it: its position, its latches and its life state (R345). -/
def CoreView.lasting (v : CoreView) : CoreView :=
  { v with position := .boundary, latch := Latches.clear, ctx := .aborted }

/-- What lasts of the core is the same in both states. -/
def Lasts (s t : State) : Prop := (coreView t).lasting = (coreView s).lasting

theorem lasts_of_coreView {s t : State} (h : coreView t = coreView s) : Lasts s t := congrArg CoreView.lasting h

theorem lasts_abortCore (s : State) : Lasts s (abortCore s) := rfl

/-- `Resume` of a jammed core reports; of another context it does not touch the core (R342). -/
theorem lasts_resume {h : Nat} {s t : State} (hj : s.run = .jammed) (hr : resume h s = .next t) :
    Lasts s t := by
  obtain ⟨q, run, -, hrun, ⟨status, -, rfl⟩ | ⟨hd, rfl⟩⟩ := resume_next hr
  · rfl
  · obtain ⟨-, rfl, -⟩ := resumeDecision_start hd
    cases h with
    | zero => cases hj.symm.trans (Option.some.inj hrun)
    | succ k => rfl

/-- A reset of another context, or an Abort, touches no more of the core than `f` does. -/
theorem lasts_lifeCall {h : Nat} {ok : CtxState → Option Misuse} {f : State → State}
    {g : Nat → OtherContext → OtherContext} {s t : State} (hf : h = 0 → Lasts s (f s))
    (hl : lifeCall h ok f g s = .next t) : Lasts s t := by
  obtain ⟨q, -, -, ⟨hh, rfl⟩ | ⟨k, -, rfl⟩⟩ := lifeCall_next hl
  · exact hf hh
  · rfl

/-- R293: of the driver's calls only a reset of the core reaches what lasts of a jammed core, and only while no context is
active (R364). -/
theorem lasts_driverCall {c : Call} {s t : State} (hj : s.run = .jammed)
    (hc : ¬(c = .hardReset 0 ∨ c = .softReset 0)) (h : driverCall c s = .next t) : Lasts s t := by
  obtain hd | ⟨-, ⟨k, -, hr⟩ | ⟨k, rfl, hl⟩ | ⟨k, rfl, hl⟩ | ⟨k, -, hl⟩⟩ := driverCall_next h
  · exact lasts_of_coreView (coreView_of_collaborated (callDuring_collaborated hd))
  · exact lasts_resume hj hr
  · exact lasts_lifeCall (fun hk => absurd (.inl (congrArg _ hk)) hc) hl
  · exact lasts_lifeCall (fun hk => absurd (.inr (congrArg _ hk)) hc) hl
  · exact lasts_lifeCall (fun _ => lasts_abortCore s) hl

theorem lasts_driverStep {s t : State} (hj : s.run = .jammed)
    (hc : ¬(s.driver.head? = some (.hardReset 0) ∨ s.driver.head? = some (.softReset 0)))
    (h : driverStep s = .next t) : Lasts s t := by
  obtain ⟨-, rfl⟩ | ⟨c, rest, hd, hcall⟩ := driverStep_next h
  · rfl
  · rw [hd, List.head?_cons, Option.some.injEq, Option.some.injEq] at hc
    exact lasts_driverCall (s := { s with driver := rest }) hj hc hcall

/-- A step with a jammed core is the driver's or another context's; what lasts of the core stays but for a reset of it. -/
theorem lasts_step {s t : State} (hi : Inv s) (hj : s.run = .jammed) (h : step s = .next t) :
    Lasts s t ∨
      (s.active = none ∧ (s.driver.head? = some (.hardReset 0) ∨ s.driver.head? = some (.softReset 0))) := by
  unfold step at h
  split at h
  next ha =>
    obtain ⟨-, -, -, hrunning⟩ := hi.arbiter
    exact absurd ha (hrunning (by rw [hj]; nofun))
  next => exact .inl (lasts_of_coreView (coreView_otherStep h))
  next ha =>
    by_cases hc : s.driver.head? = some (.hardReset 0) ∨ s.driver.head? = some (.softReset 0)
    · exact .inr ⟨ha, hc⟩
    · exact .inl (lasts_driverStep hj hc h)

/-- Settles O58: what lasts of the core holds the run state and all that the statement names. -/
theorem jamIsLeftOnlyByReset : Obligations.JamIsLeftOnlyByReset := by
  unfold Obligations.JamIsLeftOnlyByReset
  intro s t hi hj h
  refine (lasts_step hi hj h).imp_left fun hl => ?_
  simp only [Lasts, CoreView.lasting, coreView, CoreView.mk.injEq] at hl
  obtain ⟨hregs, hpc, hea, hir, hopr, hprev, hpending, hint, hvector, hsuspend, hrun, hreq, -, -, hclock, -⟩ := hl
  exact ⟨hrun.trans hj, hregs, hpc, hea, hir, hopr, hclock, hprev, hpending, hint, hvector, hsuspend, hreq⟩

end Sys2Proof.Proofs
end

section
/-! SUPPORT. What no step takes back (R313, R331, R344): a latched edge request, the clock, and the events of the
history; the start of an edge-line entry and the HardReset of the core are the exceptions. -/

namespace Sys2Proof.Proofs

open Sys2Proof.Machine Sys2Proof.Safety Sys2Proof.Laws

/-! ### Progress -/

/-- From `s` to `t` a latched edge request stays, the clock does not go back, and it stands still where none of the new
events is a transaction of the core. -/
structure Progress (s t : State) : Prop where
  pending : s.nmiPending = true → t.nmiPending = true
  clock : s.sched.clock ≤ t.sched.clock
  events : ∃ new, t.history = new ++ s.history ∧ ((∀ e ∈ new, e.context ≠ 0) → t.sched.clock = s.sched.clock)

/-- Events of other contexts are progress of the core that its clock does not show. -/
theorem progress_of_clock_eq {s t : State} (hpending : s.nmiPending = true → t.nmiPending = true)
    (hclock : t.sched.clock = s.sched.clock) (hhistory : s.history <:+ t.history) : Progress s t := by
  obtain ⟨new, hnew⟩ := hhistory
  exact ⟨hpending, hclock.ge, new, hnew.symm, fun _ => hclock⟩

theorem progress_of_coreView {s t : State} (hview : coreView t = coreView s) (hhistory : s.history <:+ t.history) :
    Progress s t :=
  progress_of_clock_eq (congrArg CoreView.nmiPending hview).trans (congrArg CoreView.clock hview) hhistory

/-- What touches neither the Pending flag, nor the clock, nor the history. -/
theorem progress_unchanged {s t : State} (hpending : t.nmiPending = s.nmiPending := by rfl)
    (hclock : t.sched.clock = s.sched.clock := by rfl) (hhistory : t.history = s.history := by rfl) : Progress s t :=
  progress_of_clock_eq hpending.trans hclock (hhistory ▸ List.suffix_rfl)

theorem Progress.trans {s t u : State} (hst : Progress s t) (htu : Progress t u) : Progress s u := by
  obtain ⟨new, hnew, hstill⟩ := hst.events
  obtain ⟨new', hnew', hstill'⟩ := htu.events
  refine ⟨fun hp => htu.pending (hst.pending hp), hst.clock.trans htu.clock, new' ++ new, ?_, fun hall => ?_⟩
  · rw [hnew', hnew, List.append_assoc]
  · obtain ⟨hall', hall⟩ := List.forall_mem_append.mp hall
    exact (hstill' hall').trans (hstill hall)

/-- The new events are those that the longer history begins with, for it is kept newest first. -/
theorem Progress.clock_eq_of_take {s t : State} (h : Progress s t)
    (hall : ∀ e ∈ t.history.take (t.history.length - s.history.length), e.context ≠ 0) :
    t.sched.clock = s.sched.clock := by
  obtain ⟨new, hnew, hstill⟩ := h.events
  rw [hnew, List.length_append, Nat.add_sub_cancel, List.take_left] at hall
  exact hstill hall

/-! ### Transactions of the core -/

/-- R313: a poll can only set the Pending flag. -/
theorem progress_polled (sus : Bool) (s : State) : Progress s (polled sus s) := by
  refine progress_of_clock_eq (fun hp => ?_) (by rw [polled_sched]) (by rw [polled_history])
  unfold polled
  split
  · exact hp
  · rw [poll_nmiPending, hp, Bool.true_or]

/-- A transaction that is performed moves the clock and is recorded as one of the core (R61, R65). -/
theorem progress_busCycle_answered {t : Txn} {d : Byte} {s u : State} (hb : busCycle 0 t s = .answered d u) :
    Progress s u := by
  obtain ⟨v, hv, rfl⟩ := busCycle_answered hb
  have hview := coreView_resolve_answered hv
  have hpending : v.nmiPending = s.nmiPending := congrArg CoreView.nmiPending hview
  have hclock : v.sched.clock = s.sched.clock + _ := congrArg CoreView.clock hview
  have hhistory : v.history = s.history := (history_resolve_answered hv).trans (history_updateSched 0 _ s)
  refine ⟨hpending.trans, ?clock, [_], congrArg (List.cons _) hhistory, ?core⟩
  case clock =>
    show s.sched.clock ≤ v.sched.clock + 1
    omega
  case core => exact fun hall => absurd rfl (hall _ List.mem_cons_self)

/-- R331: a transaction that fails leaves the clock as it was: the stall cycles accounted for are given back (log 7). -/
theorem progress_busCycle_failed {t : Txn} {e : Payload} {s u : State} (hb : busCycle 0 t s = .failed e u) :
    Progress s u := by
  have hhistory := history_busCycle_failed hb
  obtain ⟨v, hv, rfl⟩ := busCycle_failed hb
  have hcalls := collaborate_collaborated (resolve_failed hv).2
  refine progress_unchanged hcalls.nmiPending ?_ hhistory
  exact (congrArg (· - _) hcalls.clock).trans (Nat.add_sub_cancel s.sched.clock _)

theorem progress_transact_done {q : SeqKind} {k : Nat} {sus : Bool} {t : Txn} {d : Byte} {s u : State}
    (h : transact q k sus t s = .done d u) : Progress s u :=
  (progress_polled sus s).trans (progress_busCycle_answered (transact_done h).1)

theorem progress_transact_stopped {q : SeqKind} {k : Nat} {sus : Bool} {t : Txn} {s u : State}
    (h : transact q k sus t s = .stopped u) : Progress s u := by
  obtain ⟨e, v, hb, rfl⟩ | ⟨d, v, hb, -, rfl⟩ := transact_stopped h
  · exact ((progress_polled sus s).trans (progress_busCycle_failed hb)).trans progress_unchanged
  · exact ((progress_polled sus s).trans (progress_busCycle_answered hb)).trans progress_unchanged

/-! ### Actions of the core -/

/-- Step e of a transaction and the register updates of its line. -/
theorem progress_after {m : Micro} (hm : Plain m) (d : Byte) (s : State) : Progress s (m.after d (stepE s)) :=
  have hkept := hm.after d (stepE s)
  progress_unchanged hkept.nmiPending (congrArg Sched.clock hkept.sched) hkept.history

theorem progress_runSeq {q : SeqKind} {first : Nat} {lines : List Micro} {s t : State} (hl : AllPlain lines)
    (h : runSeq q first lines s = .next t) : Progress s t := by
  refine runSeq_next (P := Progress s) (Q := Progress s) ?done ?stopped ?ended (fun _ => progress_unchanged) ?retained h
  case done =>
    exact fun m hm _ u v d hu hv => (hu.trans (progress_transact_done hv)).trans (progress_after (hl m hm) d v)
  case stopped => exact fun _ _ _ u v _ _ hu hv => hu.trans (progress_transact_stopped hv)
  case ended => exact fun u hu => hu.trans progress_unchanged
  case retained => exact fun m hm _ d _ => progress_after (hl m hm) d s

theorem progress_decodeAndExec {s t : State} (h : decodeAndExec s = .next t) : Progress s t := by
  rw [decodeAndExec] at h
  obtain ⟨-, hj⟩ | ⟨lines, hl, -, he⟩ := exec_shape (decodeOpcode s.ir)
  · cases (hj s).symm.trans h
    exact progress_unchanged
  · exact progress_runSeq hl ((he s).symm.trans h)

/-- The step of the core from `s` to `t` starts an interrupt entry, and goes on from what R321 does before E1. -/
structure StartsEntry (s t : State) : Prop where
  boundary : s.position = .boundary
  action : boundaryAction s = .entry
  progress : Progress (entryStart s) t

/-- At an instruction boundary, by the action of R318. -/
theorem progress_coreStep_boundary {s t : State} (hp : s.position = .boundary) (h : coreStep s = .next t) :
    Progress s t ∨ StartsEntry s t := by
  cases hb : boundaryAction s with
  | report status =>
    cases (coreStep_boundary_report hp hb).symm.trans h
    exact .inl progress_unchanged
  | reset =>
    have hrest := progress_runSeq allPlain_resetLines ((coreStep_boundary_reset hp hb).symm.trans h)
    exact .inl (Progress.trans progress_unchanged hrest)
  | entry =>
    exact .inr ⟨hp, hb, progress_runSeq allPlain_entryLines ((coreStep_boundary_entry hp hb).symm.trans h)⟩
  | fetch =>
    left
    cases hf : fetchOpcode s with
    | done d u =>
      have hrest := progress_decodeAndExec ((coreStep_fetch_done hp hb hf).symm.trans h)
      exact (progress_transact_done hf).trans (Progress.trans progress_unchanged hrest)
    | stopped u =>
      cases (coreStep_fetch_stopped hp hb hf).symm.trans h
      exact progress_transact_stopped hf
    | refused m => cases (coreStep_fetch_refused hp hb hf).symm.trans h

/-- Only a step from a boundary can start an entry; one that goes on inside a sequence is progress. -/
theorem progress_coreStep {s t : State} (h : coreStep s = .next t) : Progress s t ∨ StartsEntry s t := by
  cases hp : s.position with
  | boundary => exact progress_coreStep_boundary hp h
  | inTxn q k d =>
    left
    cases q with
    | reset => exact progress_runSeq allPlain_resetLines ((coreStep_inside_reset hp).symm.trans h)
    | entry => exact progress_runSeq allPlain_entryLines ((coreStep_inside_entry hp).symm.trans h)
    | instr =>
      cases k with
      | zero =>
        have hrest := progress_decodeAndExec ((coreStep_inside_fetch hp).symm.trans h)
        exact Progress.trans progress_unchanged hrest
      | succ k => exact progress_decodeAndExec ((coreStep_inside_instr hp).symm.trans h)

/-! ### The driver's calls -/

/-- `Resume` moves neither the clock nor the sampler (R342). -/
theorem progress_resume {h : Nat} {s t : State} (hr : resume h s = .next t) : Progress s t := by
  obtain ⟨q, run, -, -, ⟨status, -, rfl⟩ | ⟨-, rfl⟩⟩ := resume_next hr
  · exact progress_unchanged
  · cases h <;> exact progress_unchanged

/-- A reset or an Abort of another context does not reach the core; of the core it is `f`. -/
theorem progress_lifeCall {h : Nat} {ok : CtxState → Option Misuse} {f : State → State}
    {g : Nat → OtherContext → OtherContext} {s t : State} (hf : h = 0 → Progress s (f s))
    (hl : lifeCall h ok f g s = .next t) : Progress s t := by
  obtain ⟨q, -, -, ⟨hh, rfl⟩ | ⟨k, -, rfl⟩⟩ := lifeCall_next hl
  · exact hf hh
  · exact progress_unchanged

/-- Of the driver's calls only HardReset of the core takes back its clock or its edge request (R361). -/
theorem progress_driverCall {c : Call} {s t : State} (hc : c ≠ .hardReset 0) (h : driverCall c s = .next t) :
    Progress s t := by
  obtain hd | ⟨-, ⟨k, -, hr⟩ | ⟨k, rfl, hl⟩ | ⟨k, -, hl⟩ | ⟨k, -, hl⟩⟩ := driverCall_next h
  · have hcalls := callDuring_collaborated hd
    exact progress_of_coreView (coreView_of_collaborated hcalls) (hcalls.history ▸ List.suffix_rfl)
  · exact progress_resume hr
  · exact progress_lifeCall (fun hk => absurd (congrArg _ hk) hc) hl
  · exact progress_lifeCall (fun _ => progress_unchanged) hl
  · exact progress_lifeCall (fun _ => progress_unchanged) hl

theorem progress_driverStep {s t : State} (hc : s.driver.head? ≠ some (.hardReset 0)) (h : driverStep s = .next t) :
    Progress s t := by
  obtain ⟨-, rfl⟩ | ⟨c, rest, hd, hcall⟩ := driverStep_next h
  · exact progress_unchanged
  · rw [hd, List.head?_cons, ne_eq, Option.some.injEq] at hc
    exact Progress.trans progress_unchanged (progress_driverCall hc hcall)

/-! ### Every step -/

/-- Every step that is no HardReset of the core is progress, or starts an interrupt entry of the active core. -/
theorem progress_step {s t : State} (h : step s = .next t)
    (hc : ¬(s.active = none ∧ s.driver.head? = some (.hardReset 0))) :
    Progress s t ∨ s.active = some 0 ∧ StartsEntry s t := by
  unfold step at h
  split at h
  next ha => exact (progress_coreStep h).imp_right (And.intro ha)
  next => exact .inl (progress_of_coreView (coreView_otherStep h) (history_suffix_otherStep h))
  next ha => exact .inl (progress_driverStep (fun hd => hc ⟨ha, hd⟩) h)

/-- R318: an entry is taken by a running core with no reset due, on the decision of the last poll. -/
theorem boundaryAction_eq_entry_iff {s : State} :
    boundaryAction s = .entry ↔ s.run = .running ∧ s.resetReq = .none ∧ s.intPending = true := by
  unfold boundaryAction
  split
  next hrun => simp [hrun]
  next hrun => simp [hrun]
  next hrun =>
    split
    next hreq => simp [hrun, hreq]
    next hreq => simp [hrun, hreq]

/-- R321: what an entry does before E1 drops a request only with the edge line's vector selected. -/
theorem intVector_of_entryStart_drops {s : State} (hp : s.nmiPending = true)
    (hdrop : (entryStart s).nmiPending = false) : s.intVector = 0xFFFA := by
  rwa [entryStart_nmiPending, hp, Bool.true_and, bne_eq_false_iff_eq] at hdrop

/-- Settles O44: progress keeps the request, so the step started an entry, and the request was dropped before E1. -/
theorem edgeRequestWaitsForItsEntry : Obligations.EdgeRequestWaitsForItsEntry := by
  unfold Obligations.EdgeRequestWaitsForItsEntry
  refine ⟨fun s t hp h hdrop => ?latched, fun s hp hedge hlevel => ?released⟩
  case latched =>
    refine or_iff_not_imp_right.mpr fun hc => ?_
    obtain hprogress | ⟨ha, hboundary, haction, hprogress⟩ := progress_step h hc
    · exact absurd (hprogress.pending hp) (by simp [hdrop])
    · obtain ⟨hrun, hreq, hint⟩ := boundaryAction_eq_entry_iff.mp haction
      have hstart : (entryStart s).nmiPending = false :=
        Bool.eq_false_iff.mpr fun hs => absurd (hprogress.pending hs) (by simp [hdrop])
      exact ⟨ha, hboundary, hrun, hreq, hint, intVector_of_entryStart_drops hp hstart⟩
  case released =>
    rw [poll_intPending, hp, hedge]
    obtain hlines | hmask := hlevel
    · simp [hlines]
    · simp [hmask]

/-- Settles O59: the start of an entry touches neither the clock nor the history. -/
theorem clockMovesOnlyWithTransactions : Obligations.ClockMovesOnlyWithTransactions := by
  unfold Obligations.ClockMovesOnlyWithTransactions
  intro s t h hc
  obtain hprogress | ⟨-, -, -, hprogress⟩ := progress_step h hc
  · exact ⟨hprogress.clock, hprogress.clock_eq_of_take⟩
  · exact ⟨hprogress.clock, hprogress.clock_eq_of_take⟩

end Sys2Proof.Proofs
end

section
/-! SUPPORT. The interrupt entry (R321) from a ready state, and the completion of any sequence of the core whose last
transaction is suspended (R316). -/

namespace Sys2Proof.Proofs

open Sys2Proof.Machine Sys2Proof.Safety Sys2Proof.Laws

/-! ### Completion of a sequence -/

/-- A sequence of the core whose last line is suspended completes from a ready state, whichever sequence it is. -/
theorem runSeq_follows_of_suspended {q : SeqKind} {first : Nat} {lines : List Micro} {m : Micro} {s t : State}
    {e : Effect} {log : List Access} (hs : Ready s) (hl : AllPlain lines) (hlen : lines.length ≤ 7)
    (hread : lines.head?.map (fun m => (m.txn s).dir) = some .read) (h : Reaches lines s log e.pollI [m] t)
    (hsus : m.sus t = true) (hlog : e.log = log ++ [access m t]) (hleaves : Leaves e (afterLine m t)) :
    ∃ u, runSeq q first lines s = .next u ∧ Follows e s u := by
  have hm : Plain m := hl m (h.suffix.subset List.mem_cons_self)
  obtain ⟨⟨k, heq⟩, hran, hcovers⟩ :=
    h.runFrom_eq hl (covers_of_ready hs hlen) (starts_of_ready hs hread) q first
  have hlast : runFrom q k [m] t = .next (finish (afterLine m t)) := by
    rw [runFrom_cons_plain _ k [] hm hcovers.plain (hcovers.due_lt _), runFrom_nil, ite_self]
  have hall := hlog ▸ hran.afterLine_suspended (hran.starts m) hm hsus
  refine ⟨finish (afterLine m t), ?_, ?_⟩
  · rw [runSeq_boundary hs.boundary, heq, hlast]
  · exact
      { hleaves with
        resetReq := hall.resetReq
        performed := { hall.performed with }
        sampled := hall.sampled
        untouched := hall.untouched }

/-- The latches, which a completed sequence has cleared, do not matter to what it follows. -/
theorem follows_of_latch {e : Effect} {s t : State} {l : Latches} (h : Follows e { s with latch := l } t) :
    Follows e s t :=
  { h with
    performed := { h.performed with }
    untouched := { h.untouched with } }

/-! ### The entry -/

theorem ready_entryStart {s : State} (hs : Ready s) : Ready (entryStart s) := { hs with }

/-- E1 to E6 poll (R317). -/
theorem goesOn_entryLines_polling : ∀ m ∈ entryLines.take 6, GoesOn m := by simp [entryLines]

theorem reaches_entryLines (s : State) :
    Reaches entryLines s (accesses (entryLines.take 6) s) true [vectorHi fun s => s.latch.vec]
      (afterLines (entryLines.take 6) s) :=
  reaches_take (n := 6) (lines := entryLines) s (List.cons_ne_nil _ _) goesOn_entryLines_polling

/-- R321: the pushes do not reach the vector. -/
theorem peek_afterLines_entryLines {s : State} (hs : Ready s) {a : Word} (ha : hi8 a ≠ 1) :
    peek (afterLines (entryLines.take 5) s) a = peek s a := by
  have hreaches := reaches_take (n := 5) (lines := entryLines) s (List.cons_ne_nil _ _)
    fun m hm => goesOn_entryLines_polling m (List.take_subset_take_left _ (by decide) hm)
  rw [Reaches.peek_eq hs allPlain_entryLines (by decide) rfl hreaches]
  simp [accesses, entryLines, written, rd, wr, stackAt_ne ha]

/-- Both bytes of either vector lie outside the stack (R67, R321). -/
theorem hi8_vector_ne_one {s : State} (hv : VectorOk s) : hi8 s.intVector ≠ 1 ∧ hi8 (s.intVector + 1) ≠ 1 := by
  obtain hv | hv := hv <;> rw [hv] <;> decide

/-- Settles O39: the vector's bytes are read as the pushes left them, the last of them by the suspended E7. -/
theorem interruptEntryPushesAndVectors : Obligations.InterruptEntryPushesAndVectors := by
  unfold Obligations.InterruptEntryPushesAndVectors
  intro s hs hv
  have hready := ready_entryStart hs
  obtain ⟨hloPage, hhiPage⟩ := hi8_vector_ne_one hv
  have hlo : _ = peek s s.intVector := peek_afterLines_entryLines hready hloPage
  have hhi : _ = peek s (s.intVector + 1) := peek_afterLines_entryLines hready hhiPage
  suffices h : ∃ t, runSeq .entry 0 entryLines (entryStart s) = .next t ∧ Follows _ (entryStart s) t by
    obtain ⟨t, ht, hfollows⟩ := h
    exact ⟨t, ht, follows_of_latch hfollows⟩
  simp only [← hi8_eq_extract, ← lo8_eq_extract, rd, ← hlo, ← hhi, ← sub_two_sub_one, ← sub_one_sub_one,
    ← writeHi_writeLo s.pc]
  refine runSeq_follows_of_suspended hready allPlain_entryLines (by decide) rfl (reaches_entryLines _) rfl ?log ?leaves
  case log => simp [accesses, afterLines, entryLines, setI, setPcl, rd, peek]
  case leaves => constructor <;> simp [afterLines, entryLines, setI, setPcl, setPch, regs, peek]

end Sys2Proof.Proofs
end

section
/-! SUPPORT. The order of actions at an instruction boundary (R318), and the interrupt poll (R313, R327). -/

namespace Sys2Proof.Proofs

open Sys2Proof.Machine Sys2Proof.Laws

/-! ### The boundary -/

section
variable {s : State}

theorem boundaryAction_jammed (hrun : s.run = .jammed) : boundaryAction s = .report .jammed := by
  simp only [boundaryAction, hrun]

theorem boundaryAction_faulted {e : Payload} (hrun : s.run = .faulted e) : boundaryAction s = .report (.faulted e) := by
  simp only [boundaryAction, hrun]

theorem boundaryAction_reset (hrun : s.run = .running) (hreq : s.resetReq = .reset) : boundaryAction s = .reset := by
  simp only [boundaryAction, hrun, hreq]

end

/-- Settles O38: each action is that of its condition on the execution state, the requests and the last poll. -/
theorem boundaryTakesFirstApplicableAction : Obligations.BoundaryTakesFirstApplicableAction := by
  unfold Obligations.BoundaryTakesFirstApplicableAction
  refine ⟨fun s ha hp => ?boundary, fun s d ha => ?inside⟩ <;> rw [step_core ha]
  case boundary =>
    refine ⟨?jammed, ?faulted, ?reset, ?entry, ?fetch⟩
    case jammed => exact fun hrun => coreStep_boundary_report hp (boundaryAction_jammed hrun)
    case faulted => exact fun e hrun => coreStep_boundary_report hp (boundaryAction_faulted hrun)
    case reset => exact fun hrun hreq => coreStep_boundary_reset hp (boundaryAction_reset hrun hreq)
    case entry =>
      exact fun hrun hreq hint => coreStep_boundary_entry hp (boundaryAction_eq_entry_iff.mpr ⟨hrun, hreq, hint⟩)
    case fetch =>
      intro hrun hreq hint
      have hb := boundaryAction_fetch hrun hreq hint
      cases hf : fetchOpcode s with
      | done d u => exact coreStep_fetch_done hp hb hf
      | stopped u => exact coreStep_fetch_stopped hp hb hf
      | refused m => exact coreStep_fetch_refused hp hb hf
  case inside =>
    exact ⟨coreStep_inside_fetch, fun _ => coreStep_inside_instr, fun _ => coreStep_inside_entry,
      fun _ => coreStep_inside_reset⟩

/-! ### The poll -/

/-- Settles O41: the model's poll, its test of the level lines written as a decision. -/
theorem pollLatchesEdgesAndSamplesLevels : Obligations.PollLatchesEdgesAndSamplesLevels := by
  unfold Obligations.PollLatchesEdgesAndSamplesLevels
  intro s
  have hlines : decide (s.irqLines ≠ 0) = (s.irqLines != 0) := by rw [decide_not, bne, beq_eq_decide]
  simp only [hlines, poll]

/-- R327: with the line as the last poll saw it there is no edge. -/
theorem poll_nmiPending_of_no_edge {s : State} (hedge : s.nmiLine = s.nmiPrev) :
    (poll s).nmiPending = s.nmiPending := by
  rw [poll_nmiPending, hedge, Bool.and_not_self, Bool.or_false]

/-- R313: a line that is high, and was low at the last poll, is latched. -/
theorem poll_nmiPending_of_edge {s : State} (hline : s.nmiLine = true) (hprev : s.nmiPrev = false) :
    (poll s).nmiPending = true := by
  rw [poll_nmiPending, hline, hprev, Bool.not_false, Bool.and_self, Bool.or_true]

/-- Settles O43: a poll records the line it saw, so a held line is no edge of the next poll, and a raised one is. -/
theorem heldLineNeverRelatches : Obligations.HeldLineNeverRelatches := by
  unfold Obligations.HeldLineNeverRelatches
  exact fun s => ⟨fun _ => poll_nmiPending_of_no_edge rfl, fun hlow => poll_nmiPending_of_edge rfl hlow⟩

end Sys2Proof.Proofs
end

section
/-! SUPPORT. AssertLine, Abort, and the calls that are out of contract (R311, R334, R345, R346, R364). -/

namespace Sys2Proof.Proofs

open Sys2Proof.Machine Sys2Proof.Laws

/-! ### AssertLine (R311) -/

/-- Setting line `i` sets its bit and no other. -/
theorem testBit_setLine (lines i : Nat) (asserted : Bool) (j : Nat) :
    (setLine lines i asserted).testBit j = if j = i then asserted else lines.testBit j := by
  unfold setLine
  split
  next hset =>
    split
    next hj => rw [hj, hset]
    next => rfl
  next hflip =>
    rw [Nat.testBit_xor, Nat.testBit_two_pow]
    split
    next hj => simpa [hj] using Bool.eq_not.mpr hflip
    next hj => simp [Ne.symm hj]

theorem driverCall_assertLine_nmi (asserted : Bool) (s : State) :
    driverCall (.assertLine .nmi asserted) s = .next { s with nmiLine := asserted } := rfl

theorem driverCall_assertLine_level {i : Nat} (asserted : Bool) (s : State) (hi : i < Config.nirq) :
    driverCall (.assertLine (.level i) asserted) s = .next { s with irqLines := setLine s.irqLines i asserted } :=
  have h : callDuring (.assertLine (.level i) asserted) s = .ok _ := if_pos hi
  (acceptedAs_of_callDuring h).2

theorem driverCall_assertLine_unknown {i : Nat} (asserted : Bool) (s : State) (hi : Config.nirq ≤ i) :
    driverCall (.assertLine (.level i) asserted) s = .refused (.outOfContract .unknownSource) :=
  have h : callDuring (.assertLine (.level i) asserted) s = .error .unknownSource := if_neg (Nat.not_lt.mpr hi)
  (refusedAs_of_callDuring h nofun).2

/-- Settles O49: the call is `setLine` on the level lines, which are changed in one bit. -/
theorem assertLineChangesOnlyTheLine : Obligations.AssertLineChangesOnlyTheLine := by
  unfold Obligations.AssertLineChangesOnlyTheLine
  exact fun s asserted i => ⟨driverCall_assertLine_nmi asserted s,
    fun hi => ⟨_, driverCall_assertLine_level asserted s hi, testBit_setLine s.irqLines i asserted⟩,
    driverCall_assertLine_unknown asserted s⟩

/-! ### Calls on a context's life (R346) -/

section
variable {ok : CtxState → Option Misuse} {f : State → State} {g : Nat → OtherContext → OtherContext} {s : State}

theorem lifeCall_core (hok : ok s.sched.ctx = none) : lifeCall 0 ok f g s = .next (f s) := by
  simp only [lifeCall, schedOf_core, hok]

theorem lifeCall_other {k : Nat} {o : OtherContext} (ho : s.others[k]? = some o) (hok : ok o.sched.ctx = none) :
    lifeCall (k + 1) ok f g s = .next { s with others := s.others.set k (g k o) } := by
  simp only [lifeCall, schedOf_other ho, hok, updateOther_eq_set _ ho]

theorem lifeCall_refused {h : Nat} {q : Sched} {m : Misuse} (hq : schedOf h s = some q) (hok : ok q.ctx = some m) :
    lifeCall h ok f g s = .refused (.outOfContract m) := by
  simp only [lifeCall, hq, hok]

end

/-! ### Abort, and an aborted core -/

/-- R345: Abort is admitted on an idle or suspended context. -/
theorem abortOk_of_stopped {c : CtxState} (hc : c = .idle ∨ c = .suspended) : abortOk c = none := by
  obtain rfl | rfl := hc <;> rfl

section
variable {s : State} (ha : s.active = none)
include ha

theorem driverCall_abort_core (hc : s.sched.ctx = .idle ∨ s.sched.ctx = .suspended) :
    driverCall (.abort 0) s = .next (abortCore s) :=
  (whenNoneActive_of_none _ ha).trans (lifeCall_core (abortOk_of_stopped hc))

theorem driverCall_abort_other {k : Nat} {o : OtherContext} (ho : s.others[k]? = some o)
    (hc : o.sched.ctx = .idle ∨ o.sched.ctx = .suspended) :
    driverCall (.abort (k + 1)) s = .next { s with others := s.others.set k (abortOther k o) } :=
  (whenNoneActive_of_none _ ha).trans (lifeCall_other ho (abortOk_of_stopped hc))

theorem driverCall_abort_aborted (hc : s.sched.ctx = .aborted) :
    driverCall (.abort 0) s = .refused (.outOfContract .abortAborted) :=
  (whenNoneActive_of_none _ ha).trans (lifeCall_refused (schedOf_core s) (congrArg abortOk hc))

theorem driverCall_softReset_aborted (hc : s.sched.ctx = .aborted) :
    driverCall (.softReset 0) s = .refused (.outOfContract .softResetAborted) :=
  (whenNoneActive_of_none _ ha).trans (lifeCall_refused (schedOf_core s) (congrArg softResetOk hc))

end

/-! ### While a context is active -/

/-- R334, R364: such a call is refused whatever it would have answered. -/
theorem whenNoneActive_of_active {s : State} (r : Result) (ha : s.active ≠ none) :
    whenNoneActive r s = .refused (.outOfContract .whileActive) := by
  obtain ⟨h, ha⟩ := Option.ne_none_iff_exists'.mp ha
  simp only [whenNoneActive, ha]

/-- R63: a call that is refused during a transaction ends the collaborators' calls. -/
theorem collaborate_refused {c : Call} {m : Misuse} {s : State} (rest : List CollabCall)
    (hc : callDuring c s = .error m) : collaborate (.call c :: rest) s = .error m := by
  simp only [collaborate, hc]

/-- Settles O50: the driver's calls go by the life state of the context named and by the arbiter, and during a
transaction every such call is a misuse. -/
theorem abortAndMisuse : Obligations.AbortAndMisuse := by
  unfold Obligations.AbortAndMisuse
  refine ⟨fun s ha => ⟨driverCall_abort_core ha, fun hc => ?aborted, fun k o => driverCall_abort_other ha⟩,
    fun s h ha => ?active, fun s h rest => ?during⟩
  case aborted =>
    exact ⟨driverCall_abort_aborted ha hc, driverCall_softReset_aborted ha hc,
      (resume_answers ha (schedOf_core s) (runOf_core s)).aborted hc⟩
  case active =>
    exact ⟨whenNoneActive_of_active _ ha, whenNoneActive_of_active _ ha, whenNoneActive_of_active _ ha,
      whenNoneActive_of_active _ ha⟩
  case during =>
    exact ⟨collaborate_refused rest rfl, collaborate_refused rest rfl, collaborate_refused rest rfl,
      collaborate_refused rest rfl, rfl⟩

end Sys2Proof.Proofs
end

section
/-! SUPPORT. The reset sequence (R362) from a ready state, and SoftReset, which makes one due (R363). -/

namespace Sys2Proof.Proofs

open Sys2Proof.Machine Sys2Proof.Safety Sys2Proof.Laws

/-! ### The reset sequence -/

@[simp] theorem access_resetStack (f : State → State) (s : State) : access (resetStack f) s = rd s (stackAt s.s) := by
  rw [← stackAddr_eq]; rfl

@[simp] theorem afterLine_resetStack (f : State → State) (s : State) :
    afterLine (resetStack f) s = f { afterTxn false (readTxn (stackAt s.s)) s with s := s.s - 1 } := by
  rw [← stackAddr_eq]; rfl

@[simp] theorem goesOn_resetStack (f : State → State) : GoesOn (resetStack f) := ⟨fun _ => rfl, fun _ => rfl⟩

/-- A suspension of polling that a SoftReset left ends before R1 (log 8). -/
theorem ready_resetStart {s : State} (hs : Ready { s with suspend := false }) : Ready (resetStart s) := { hs with }

/-- Whether polling was suspended at the start does not matter to what a completed sequence follows. -/
theorem follows_of_suspend {e : Effect} {s t : State} {b : Bool} (h : Follows e { s with suspend := b } t) :
    Follows e s t :=
  { h with
    performed := { h.performed with }
    untouched := { h.untouched with } }

/-- R1 to R6 poll (R362), the last of them after R5 has set I. -/
theorem reaches_resetLines (s : State) :
    Reaches resetLines s (accesses (resetLines.take 6) s) true [vectorHi fun _ => 0xFFFC]
      (afterLines (resetLines.take 6) s) :=
  reaches_take (n := 6) (lines := resetLines) s (List.cons_ne_nil _ _) (by simp [resetLines])

/-- Settles O40: none of the lines writes, so each reads memory as it was, and the suspended R7 ends the sequence. -/
theorem resetSequenceReadsItsVector : Obligations.ResetSequenceReadsItsVector := by
  unfold Obligations.ResetSequenceReadsItsVector
  intro s hs
  suffices h : ∃ t, runSeq .reset 0 resetLines (resetStart s) = .next t ∧ Follows _ (resetStart s) t by
    obtain ⟨t, ht, hfollows⟩ := h
    exact ⟨t, ht, follows_of_suspend hfollows⟩
  simp only [← sub_two_sub_one, ← sub_one_sub_one, ← writeHi_writeLo s.pc]
  refine runSeq_follows_of_suspended (ready_resetStart hs) allPlain_resetLines (by decide) rfl (reaches_resetLines _) rfl
    ?log ?leaves
  case log => simp [accesses, afterLines, resetLines, resetStart, setI, setPcl, rd, peek]
  case leaves => constructor <;> simp [afterLines, resetLines, resetStart, setI, setPcl, setPch, regs, peek]

/-! ### SoftReset -/

/-- R346, R364: SoftReset is admitted on an idle or suspended context. -/
theorem softResetOk_of_stopped {c : CtxState} (hc : c = .idle ∨ c = .suspended) : softResetOk c = none := by
  obtain rfl | rfl := hc <;> rfl

section
variable {s : State} (ha : s.active = none)
include ha

theorem driverCall_softReset_core (hc : s.sched.ctx = .idle ∨ s.sched.ctx = .suspended) :
    driverCall (.softReset 0) s = .next (softResetCore s) :=
  (whenNoneActive_of_none _ ha).trans (lifeCall_core (softResetOk_of_stopped hc))

theorem driverCall_softReset_other {k : Nat} {o : OtherContext} (ho : s.others[k]? = some o)
    (hc : o.sched.ctx = .idle ∨ o.sched.ctx = .suspended) :
    driverCall (.softReset (k + 1)) s = .next { s with others := s.others.set k (softResetOther k o) } :=
  (whenNoneActive_of_none _ ha).trans (lifeCall_other ho (softResetOk_of_stopped hc))

end

/-- Settles O46: the call is admitted, and its effect is `softResetCore` on the core and `softResetOther` on another
context. -/
theorem softResetKeepsRegisters : Obligations.SoftResetKeepsRegisters := by
  unfold Obligations.SoftResetKeepsRegisters
  exact ⟨fun _ => driverCall_softReset_core, fun _ _ _ ha => driverCall_softReset_other ha⟩

end Sys2Proof.Proofs
end

section
/-! SUPPORT. A memory in canonical form is determined by what its addresses read (R66). -/

namespace Sys2Proof.Proofs

open Sys2Proof.Machine Sys2Proof.Laws

/-! ### Equality by reads -/

variable {k lo : Nat} {b : Byte} {rest m : List Host.Cell}

theorem read_cons_self : Memory.read ((k, b) :: rest) k = b := by
  rw [Memory.read, if_neg (lt_irrefl k), if_pos rfl]

theorem read_cons_of_lt {a : Nat} (h : k < a) : Memory.read ((k, b) :: rest) a = Memory.read rest a := by
  rw [Memory.read, if_neg h.not_gt, if_neg h.ne']

/-- The canonical form lists no blank byte, so that its first cell can be told from an address not listed. -/
theorem read_first_ne_blank (hw : Memory.wfFrom lo ((k, b) :: rest) = true) :
    Memory.read ((k, b) :: rest) k ≠ Memory.blank := by
  obtain ⟨-, -, hb, -⟩ := wfFrom_cons.mp hw
  rwa [read_cons_self]

theorem le_of_read_ne_blank {a : Nat} (hw : Memory.wfFrom lo m = true) (h : Memory.read m a ≠ Memory.blank) :
    lo ≤ a :=
  le_of_not_gt fun hlt => h (read_below hlt hw)

/-- Where two memories read alike, neither begins after the other. -/
theorem first_le_first {lo' k' : Nat} {b' : Byte} {rest' : List Host.Cell}
    (hw : Memory.wfFrom lo ((k, b) :: rest) = true) (hw' : Memory.wfFrom lo' ((k', b') :: rest') = true)
    (hread : ∀ a, Memory.read ((k, b) :: rest) a = Memory.read ((k', b') :: rest') a) : k ≤ k' := by
  have hfrom : Memory.wfFrom k ((k, b) :: rest) = true := wfFrom_cons.mpr ⟨le_rfl, (wfFrom_cons.mp hw).2⟩
  exact le_of_read_ne_blank hfrom (hread k' ▸ read_first_ne_blank hw')

/-- Behind a common first address the rests read alike: above it as the whole memories do, up to it both blank. -/
theorem read_rest_eq {b' : Byte} {rest' : List Host.Cell} (hw : Memory.wfFrom (k + 1) rest = true)
    (hw' : Memory.wfFrom (k + 1) rest' = true)
    (hread : ∀ a, Memory.read ((k, b) :: rest) a = Memory.read ((k, b') :: rest') a) (a : Nat) :
    Memory.read rest a = Memory.read rest' a := by
  obtain hle | hlt := le_or_gt a k
  · have hbelow : a < k + 1 := Nat.lt_succ_of_le hle
    rw [read_below hbelow hw, read_below hbelow hw']
  · simpa only [read_cons_of_lt hlt] using hread a

theorem eq_of_read_eq : ∀ {lo : Nat} {m m' : List Host.Cell}, Memory.wfFrom lo m = true →
    Memory.wfFrom lo m' = true → (∀ a, Memory.read m a = Memory.read m' a) → m = m'
  | _, [], [], _, _, _ => rfl
  | _, [], (k, _) :: _, _, hw', hread => absurd (hread k).symm (read_first_ne_blank hw')
  | _, (k, _) :: _, [], hw, _, hread => absurd (hread k) (read_first_ne_blank hw)
  | _, (k, b) :: rest, (k', b') :: rest', hw, hw', hread => by
    obtain rfl : k = k' := le_antisymm (first_le_first hw hw' hread) (first_le_first hw' hw fun a => (hread a).symm)
    obtain rfl : b = b' := by simpa only [read_cons_self] using hread k
    obtain ⟨-, -, -, hrest⟩ := wfFrom_cons.mp hw
    obtain ⟨-, -, -, hrest'⟩ := wfFrom_cons.mp hw'
    rw [eq_of_read_eq hrest hrest' (read_rest_eq hrest hrest' hread)]

/-- Settles O5: the read after a write is `read_write`; equality goes along the cells of both memories at once. -/
theorem memoryReadsBackTheLastWrite : Obligations.MemoryReadsBackTheLastWrite := by
  unfold Obligations.MemoryReadsBackTheLastWrite
  exact ⟨fun _ a b v hw _ => read_write hw a b v, fun _ _ => eq_of_read_eq⟩

end Sys2Proof.Proofs
end
